-- ==== Sys2Proof/Word.lean ====
section
/-! DEFINITION. The word types of the TZ4800: bytes and 32-bit words. -/

namespace Sys2Proof

/-- A 32-bit word (R-conventions of 00_scope.md: a word is 32 bits). -/
abbrev Word := BitVec 32
/-- A byte. -/
abbrev Byte := BitVec 8

/-- A Nat narrowed to a word. -/
abbrev w32 (n : Nat) : Word := BitVec.ofNat 32 n

end Sys2Proof
end

