-- ==== Sys2Proof/Machine/Fields.lean ====
section
/-! DEFINITION. Bit fields and byte order of a word, saturating counters, fixed tables of like units,
masks, and lists of keyed values in one canonical form. -/

namespace Sys2Proof

/-- Bits [lo + width - 1 : lo] of a word, as a number. -/
def bits (w : Word) (lo width : Nat) : Nat := (w.toNat >>> lo) % 2 ^ width
/-- Bit n of a word. -/
def bit (w : Word) (n : Nat) : Bool := w.getLsbD n
/-- 1 for true, 0 for false. -/
def b2n (b : Bool) : Nat := if b then 1 else 0
/-- A number placed at bit `lo`, cut to `width` bits. -/
def place (v lo width : Nat) : Nat := (v % 2 ^ width) <<< lo
/-- A counter that stops at its largest value. -/
def satInc (v limit : Nat) : Nat := if v < limit then v + 1 else limit
/-- A sum that stops at its largest value. -/
def satAdd (v d limit : Nat) : Nat := min (v + d) limit

/-- Byte n (0 the least significant) of a word. -/
def byteOf (w : Word) (n : Nat) : Byte := BitVec.ofNat 8 (w.toNat >>> (8 * n))
/-- A word from its four bytes, least significant first. -/
def ofBytes (b0 b1 b2 b3 : Byte) : Word := b3 ++ b2 ++ b1 ++ b0

/-- A table of a fixed number of like units; a read past the end answers the default,
a write past the end changes nothing. -/
def vget {α : Type} {n : Nat} [Inhabited α] (v : Vector α n) (i : Nat) : α :=
  v[i]?.getD default
/-- Replace entry i; nothing when i is past the end. -/
def vput {α : Type} {n : Nat} (v : Vector α n) (i : Nat) (x : α) : Vector α n :=
  v.setIfInBounds i x
/-- Change entry i by f; nothing when i is past the end. -/
def vupd {α : Type} {n : Nat} [Inhabited α] (v : Vector α n) (i : Nat) (f : α → α) :
    Vector α n := vput v i (f (vget v i))

/-- Bits of a Nat mask as the ascending list of the set positions below n. -/
def maskList (m n : Nat) : List Nat := (List.range n).filter (fun i => m.testBit i)
/-- The mask of a list of positions. -/
def listMask (l : List Nat) : Nat := l.foldl (fun m i => m ||| (1 <<< i)) 0
/-- Number of ones among the lowest n bits. -/
def popCount (m n : Nat) : Nat := (maskList m n).length

/-- Insert into an ascending list without repeats. -/
def insertAsc (x : Nat) : List Nat → List Nat
  | [] => [x]
  | y :: ys => if x < y then x :: y :: ys else if x = y then y :: ys else y :: insertAsc x ys

/-- A list of keyed values in one canonical form: keys strictly rising. -/
def kvGet {α : Type} (l : List (Nat × α)) (k : Nat) : Option α :=
  match l with
  | [] => none
  | (k', v) :: r => if k = k' then some v else if k < k' then none else kvGet r k
/-- Write a keyed value, keeping the keys strictly rising. -/
def kvSet {α : Type} (l : List (Nat × α)) (k : Nat) (v : α) : List (Nat × α) :=
  match l with
  | [] => [(k, v)]
  | (k', v') :: r =>
      if k < k' then (k, v) :: (k', v') :: r
      else if k = k' then (k, v) :: r
      else (k', v') :: kvSet r k v
/-- Remove a key, keeping the keys strictly rising. -/
def kvDel {α : Type} (l : List (Nat × α)) (k : Nat) : List (Nat × α) :=
  match l with
  | [] => []
  | (k', v') :: r =>
      if k < k' then (k', v') :: r
      else if k = k' then r
      else (k', v') :: kvDel r k
/-- The keys are strictly rising. -/
def kvSorted {α : Type} : List (Nat × α) → Bool
  | [] => true
  | [_] => true
  | (k, _) :: (k', v') :: r => decide (k < k') && kvSorted ((k', v') :: r)
/-- Write a keyed value with a default: the default itself is never listed. -/
def kvPut {α : Type} [DecidableEq α] (l : List (Nat × α)) (dflt : α) (k : Nat) (v : α) :
    List (Nat × α) := if v = dflt then kvDel l k else kvSet l k v

/-- Cut a list into blocks of two; a missing second half reads 0 (R151). -/
def pairUp : List Nat → List Word
  | [] => []
  | [a] => [w32 a]
  | a :: b :: r => w32 (a ||| (b <<< 16)) :: pairUp r

end Sys2Proof
end

