-- ==== Sys2Proof/Types.lean ====
section
/-! DEFINITION. Operand types of the commands and events: host command packets, bus masters,
and the measurements and protocol outcomes that an event hands to the device. -/

namespace Sys2Proof

/-- The fields of a command packet that reach execution (R122, R140). -/
structure HostCmd where
  seq : Nat
  node : Nat
  flags : Nat
  payload : List Word
  deriving DecidableEq, Repr, Inhabited

/-- The bus masters of R18. -/
inductive Master where
  | ce | applet | dma | host | scrubber | netdma
  deriving DecidableEq, Repr, Inhabited

/-- Master ID (R18). -/
def Master.id : Master → Nat
  | .ce => 0 | .applet => 1 | .dma => 2 | .host => 3 | .scrubber => 4 | .netdma => 5

/-- Access size (R16). -/
inductive Size where
  | byte | half | word
  deriving DecidableEq, Repr, Inhabited

/-- What the boot ROM finds in a start (R31, R96, R11, R460). -/
structure BootIn where
  /-- The pairs of fuse reads, in order: what each read gives, none where its SEC-DED check finds an
  uncorrectable error (R31). -/
  fuses : List (Option Nat × Option Nat)
  /-- XCLK cycles in 4096 RC cycles, corrected for trim and temperature (R96 steps 1 and 2). -/
  xclkSum : Nat
  /-- XCLK cycles in each complete monitor window from the identification to 0.77 ms after the start of
  the boot ROM, and in what is left of that time (R96 step 4). -/
  xclkWin : List Nat
  xclkTail : Nat
  /-- Patches in flash, patches whose signature fails, and the patch level (R11). -/
  patches : Nat
  rejected : Nat
  level : Nat
  /-- Collector self-check passed (R437). -/
  collectorOk : Bool
  /-- Word checker, page checker and ROM read passed (R460 steps 1-3). -/
  wordOk : Bool
  pageOk : Bool
  romOk : Bool
  /-- Rows failing the SRAM march, as b × 256 + r, and failing spare rows as b × 16 + spare (R460 step 4). -/
  badRows : List Nat
  badSpares : List Nat
  /-- Every needed flash page decoded (R460 step 5). -/
  flashOk : Bool
  /-- The CRC-32 of each ledger copy matches, where the copy was written whole (R41). -/
  ledgerA : Bool
  ledgerB : Bool
  deriving DecidableEq, Repr, Inhabited

/-- What stands at the pin of a port (R250, R257, R484): an open contact, which the device's own wetting pulls
to its rail, or a voltage in mV with the wetting current that flows, in 10 µA. -/
inductive Contact where
  | open_
  | pin (mv : Int) (iwet : Nat)
  deriving DecidableEq, Repr, Inhabited

/-- A port and what stands at its pin. -/
abbrev PinLevel := Nat × Contact

/-- What a PWMIN pin carries: its level, ns since its latest rising edge, and period and high time in ns, period 0
for a steady level (R184). -/
structure PinWave where
  level : Bool
  ago : Nat
  per : Nat
  high : Nat
  deriving DecidableEq, Repr, Inhabited

/-- What stands at a pin, and for how many PER cycles. -/
structure Stood where
  contact : Contact
  dur : Nat
  deriving DecidableEq, Repr, Inhabited

/-- The voltage at an FIO pin in mV, and for how many PER cycles it has stood (R280). -/
structure LevelIn where
  mv : Nat
  dur : Nat
  deriving DecidableEq, Repr, Inhabited

/-- A field output, and for how many PER cycles it has been in current limit (R282). -/
structure LimitIn where
  n : Fin 16
  dur : Nat
  deriving DecidableEq, Repr, Inhabited

/-- Good link cycles in each direction up to a PER cycle of the frame (R270, R275). -/
structure TrainIn where
  at_ : Nat
  cycles : Nat
  deriving DecidableEq, Repr, Inhabited

/-- Press ticks up to a PER cycle of the frame in which the command engine has not racked (R68). -/
structure MissIn where
  at_ : Nat
  ticks : Nat
  deriving DecidableEq, Repr, Inhabited

/-- A valve in HOLD: whole chop periods in a row in which its LSn stayed on, and the highest current in mA in them
(R230). -/
structure HoldIn where
  n : Fin 8
  periods : Nat
  topMa : Nat
  deriving DecidableEq, Repr, Inhabited

/-- The recovered energy of a RELEASE in 0.1 mJ, and VBOOST in 10 mV at its end (R236, R240). -/
structure ReleaseIn where
  rec01mJ : Nat
  vboost : Nat
  deriving DecidableEq, Repr, Inhabited

/-- VBOOST in 10 mV and VBAT in mV (R226). -/
structure BoostIn where
  vboost : Nat
  vbatMv : Nat
  deriving DecidableEq, Repr, Inhabited

/-- Errors that a LIN channel sees in a frame: of a bit while transmitting, of the framing (R314). -/
structure LinErrIn where
  bit : Bool
  framing : Bool
  deriving DecidableEq, Repr, Inhabited

/-- How a T1S frame left: sent or aborted, and with PLCA whether in the burst of the frame before (R326, R336). -/
structure SendEnd where
  sent : Bool
  more : Bool
  deriving DecidableEq, Repr, Inhabited

/-- The end of a frame on a CAN controller: TEC of one sent or REC of one received, as the controller counts it, and
ns from the falling SOF edge to the end of the frame (R303, R307). -/
structure FrameEnd where
  count : Nat
  sinceSof : Nat
  deriving DecidableEq, Repr, Inhabited

/-- SI and SA of a ring frame (R349). -/
structure SleepBits where
  si : Bool
  sa : Bool
  deriving DecidableEq, Repr, Inhabited

/-- A master that holds a bus lock, and for how many SYS cycles (R439). -/
structure LockIn where
  m : Master
  held : Nat
  deriving DecidableEq, Repr, Inhabited

/-- Measurements that a press tick takes (R54, R61, R101, R207, R247, R250). -/
structure TickIn where
  /-- PER cycles by which a fail-over window delays this tick (R115); in a first press tick, PER cycles
  from the start-up's latest event to the tick. -/
  slip : Nat
  /-- Mean sensor readings of the 16 clusters in 0.1 °C (R207). -/
  theta : List Int
  /-- VBAT in mV, and the four quadrants in mV (R54). -/
  vbatMv : Nat
  quads : List Nat
  /-- PARK oscillator in Hz (R101). -/
  parkHz : Nat
  /-- VBOOST in 10 mV (R248). -/
  vboost : Nat
  /-- Valve currents in mA now (R243). -/
  valveMa : List Nat
  /-- Per valve: mean of i² in mA² and mean DRn current in mA (R247). -/
  valveSq : List (Nat × Nat)
  /-- Per bank: mean of (ia + ib)² in mA² and mean FWb current in mA (R247). -/
  bankSq : List (Nat × Nat)
  /-- Boost loss with bleed and dump, in mW (R247). -/
  boostMw : Nat
  /-- Pins of ports that have changed and that no event has told: port, what stands there, and for how many
  PER cycles (R250, R257). -/
  contacts : List (Nat × Contact × Nat)
  /-- What each PWMIN pin carries (R184, R185). -/
  pins : List PinWave
  /-- Per load channel: clamp energy in µJ measured in the frame that ends, but for what its DEMAG_ENDs tell (R186,
  R206). -/
  clampUj : List Nat
  /-- In a fail-over: SYS cycles by which its delay shortens the applet window of this frame (R115). -/
  cut : Nat
  /-- Page decodes that this racking meets (R113). -/
  decodes : Nat
  /-- HCSN is low at the tick (R116, R119). -/
  hcsnLow : Bool
  deriving DecidableEq, Repr, Inhabited

/-- An access that occupies a block's bus port when its gate is to close (R104). -/
structure Flight where
  m : Master
  write : Bool
  addr : Nat
  data : Word
  /-- SYS cycles until the port is idle. -/
  left : Nat
  deriving DecidableEq, Repr, Inhabited

/-- A word for SYSCTL_BLOCK_RST, and the access that holds the port of the block that it names, if any (R69, R104). -/
structure RstIn where
  v : Word
  flight : Option Flight
  deriving DecidableEq, Repr, Inhabited

/-- Samples of one load channel in the diagnostic window (R190, R215). -/
structure LoadMeas where
  /-- Current in mA and output voltage in 10 mV at each instant of the sample grid in the window, oldest first. -/
  ma : List Nat
  mv10 : List Int
  /-- Per segment: current in mA and resistance in 0.01 mΩ. -/
  segMa : List Nat
  segR : List Nat
  deriving DecidableEq, Repr, Inhabited

/-- Samples of the diagnostic window (R112 step 6). -/
structure DiagIn where
  load : List LoadMeas
  /-- Mean valve and bank currents in mA, mean boost input current in mA (R248). -/
  valveMa : List Nat
  bankMa : List Nat
  iin : Nat
  deriving DecidableEq, Repr, Inhabited

/-- A received CAN frame (R297, R298). -/
structure CanFrame where
  id : Nat
  ide : Bool
  dlc : Nat
  fdf : Bool
  brs : Bool
  esi : Bool
  remote : Bool
  /-- ns from the falling SOF edge to the end of the frame (R303). -/
  sinceSof : Nat
  data : List Byte
  deriving DecidableEq, Repr, Inhabited

/-- Ring frame types (R349). -/
inductive RingType where
  | ring | alive | wake | withdraw
  deriving DecidableEq, Repr, Inhabited

/-- What one coil of a challenge gave (R380, R381): its carrier current in mA and the uplink, if any. -/
structure CoilIn where
  ma : Nat
  answer : Option (Word × BitVec 64)
  deriving DecidableEq, Repr, Inhabited

/-- A reception on UHFD but for its data bytes (R366): alternating preamble bits, the sync byte, the bit periods in PER
cycles from the twelfth bit before the sync byte on, and whether the Manchester code was violated. -/
structure TelegramIn where
  preamble : Nat
  sync : Byte
  periods : List Nat
  violation : Bool
  deriving DecidableEq, Repr, Inhabited

/-- What is wrong in a page of 1024 bytes: the bytes in error (R447), and the words whose code reports two errors, which
serve as erasure hints (R452). -/
structure PageErr where
  bytes : List Nat
  hints : List Nat
  deriving DecidableEq, Repr, Inhabited

/-- What the word code finds on a read, with the page's errors where it finds two (R450). -/
inductive CodeFind where
  | clean
  | one
  | two (p : PageErr)
  deriving DecidableEq, Repr, Inhabited

/-- When the scrubber's read falls: within its interval, not granted before the interval ended, or
back to back while the debt is above 0 (R457). -/
inductive ScrubPace where
  | onTime | late | catchUp
  deriving DecidableEq, Repr, Inhabited

/-- The read-back of a flash write (R454): good, or a page that failed it. -/
inductive FlashOut where
  | good
  | badPage (page : Nat)
  deriving DecidableEq, Repr, Inhabited

/-- One uplink cycle (R271): what the island measures in it, and whether its CRC holds. -/
structure UplinkIn where
  crcOk : Bool
  /-- Outputs in current limit, by channel (R282). -/
  limiting : Nat
  /-- The cycle's FV24 conversion in 10 mV. -/
  fv24 : Nat
  /-- Channel converted in this cycle, IOUT in mA, VPIN in 100 mV. -/
  conv : Nat
  iout : Nat
  vpin : Nat
  /-- The coupler and link bits of a channel disagree (R272). -/
  disagree : Bool
  deriving DecidableEq, Repr, Inhabited

end Sys2Proof
end

