-- ==== Sys2Proof/Syntax.lean ====
section
/-! DEFINITION. The commands and events of the TZ4800: one constructor per row of the table.
An event carries the PER cycles since the latest press tick (`at_`) and what the device measures;
a host command carries its packet; an XK32 instruction carries its fields. The rarest events stand last:
Lean compiles a term of a constructor only among the first 244. -/

namespace Sys2Proof

/-- The rows of the table of operations and events. -/
inductive Instr where
  /-- VBAT rises through 4.3 V and the device runs its start-up sequence from VPARK through the boot ROM (R70). -/
  | vbatPowerOn (b : BootIn)
  /-- The first press tick after start-up puts the device in Run, lowers HRDYN and moves the collector from START to NORMAL (R70). -/
  | firstPressTick (i : TickIn)
  /-- VBAT stays below 4.0 V for 10 µs and a power-on reset is held until VBAT rises above 4.3 V (R61). -/
  | brownOut (at_ : Nat)
  /-- VBAT falls below 4.5 V and hardware holds the load channels, valve banks, boost, LF drivers and bus transmitters off (R61). -/
  | lowSupplyEntry (at_ : Nat)
  /-- VBAT has stayed above 4.8 V for 1 ms, so the hold-off ends and outputs return at the next racking (R62). -/
  | lowSupplyEnd (at_ : Nat)
  /-- VBAT rises above 39 V and hardware holds the load channels, valve banks and boost off (R61). -/
  | overvoltageEntry (at_ : Nat)
  /-- VBAT has stayed below 37 V for 1 ms, so the overvoltage hold-off ends (R62). -/
  | overvoltageEnd (at_ : Nat)
  /-- VIO falls below 2.7 V, so VIO_OK clears, VIO-level outputs go high impedance and the host link stops (R65). -/
  | vioLow (at_ : Nat)
  /-- VIO rises to the VIO_OK threshold and VIO-level outputs are driven again (R51). -/
  | vioRestored (at_ : Nat)
  /-- RSTN is held low for 1 µs or longer and the device performs a warm reset (R67). -/
  | rstnLowPulse (at_ : Nat) (ns : Nat)
  /-- The rising edge of RSTN starts the boot ROM (R67). -/
  | rstnRelease (at_ : Nat) (b : BootIn)
  /-- The boot ROM starts 10 µs after a warm cause and repeats the start-up from the fuse read onwards (R71). -/
  | bootRomStart (at_ : Nat) (b : BootIn)
  /-- The watchdog goes SYSCTL_WDG.TIMEOUT press ticks without service and a warm reset follows (R68). -/
  | watchdogExpiry (w : MissIn)
  /-- Two consecutive monitor windows fail, so the trap is taken, the networks halt and the domains step down towards the fail-over state (R97). -/
  | xclkFailure (at_ : Nat) (counts : List Nat)
  /-- At the press tick, racking closes the queue, snapshots inputs, updates the thermal model, executes the commands and makes the output update (R112). -/
  | pressTick (i : TickIn)
  /-- In the diagnostic window at 0.5 P, the load, valve, field and current samples are formed (R190). -/
  | diagnosticSampling (at_ : Nat) (d : DiagIn)
  /-- When the applet window closes, the running applet stops, the remaining slots are skipped and FRAME_OVERRUN is counted (R114). -/
  | appletWindowClose (at_ : Nat)
  /-- A command packet completes at the HCSN rise and is checked in order, then either queued or refused (R125). -/
  | commandTransaction (at_ : Nat) (words : List Word) (mode3 : Bool)
  /-- A 0x5A transaction shifts out replies from the head of the queue and removes each one that completes (R129). -/
  | replyReadTransaction (at_ : Nat) (first : Word) (words : Nat) (mode3 : Bool)
  /-- A transaction with an invalid first word is counted as a framing error and changes nothing else (R120). -/
  | invalidTransaction (at_ : Nat) (first : Option Word) (mode3 : Bool)
  /-- A reply held in the command engine is posted once a reply queue slot frees (R26). -/
  | heldReplyPosted (at_ : Nat)
  /-- A deferred command executes at its named racking and is answered FINAL (R143). -/
  | deferredCommandDue (at_ : Nat)
  /-- An armed monitor with SILENT at or above TIMEOUT enters Lost and takes the loss actions (R135). -/
  | hostLossTimeout (at_ : Nat)
  /-- ERR_LIMIT consecutive error transactions make the monitor enter Lost (R135). -/
  | hostLossErrLimit (at_ : Nat)
  /-- When the hold lease ends, every channel still held takes its limp state within 20 µs (R77). -/
  | holdLeaseExpiry (at_ : Nat)
  /-- After LIMPN has been low for 5 µs, every present load channel takes its limp state (R79). -/
  | limpnAsserted (at_ : Nat)
  /-- After LIMPN has been high for 1 ms, channels return to their ladder state (R80). -/
  | limpnReleased (at_ : Nat)
  /-- Does nothing and replies with the tick count (R147). -/
  | nop (c : HostCmd)
  /-- Echoes the request payload (R147). -/
  | ping (c : HostCmd)
  /-- Returns the mode, vat, hold, loss, firmware and reset status (R147). -/
  | getStatus (c : HostCmd)
  /-- Returns FEAT0–FEAT7 and FEAT_LEDGER_COUNT (R147). -/
  | getFeatures (c : HostCmd)
  /-- Removes matching deferred commands and answers each of them CANCELLED (R147). -/
  | cancel (c : HostCmd)
  /-- Opens the vat as a copy of the live image or of the defaults and starts the vat lease (R162). -/
  | vatOpen (c : HostCmd)
  /-- Applies masked writes to staged registers in the vat (R162). -/
  | vatWrite (c : HostCmd)
  /-- Starts the whole-vat check and enters CHECKING (R165). -/
  | vatCheck (c : HostCmd)
  /-- The check completes; VAT_CHECK is answered and the vat goes to CHECKED or OPEN (R164). -/
  | vatCheckDone (at_ : Nat)
  /-- Prepares bottling at racking b − 1 and copies the vat into the inactive half of the live image (R166). -/
  | vatBottle (c : HostCmd)
  /-- Drops the vat and closes it (R162). -/
  | vatDiscard (c : HostCmd)
  /-- Returns staged or live values for the listed addresses (R162). -/
  | vatRead (c : HostCmd)
  /-- Starts writing the vat to a flash image slot (R168). -/
  | vatStore (c : HostCmd)
  /-- The image write completes and VAT_STORE is answered (R168). -/
  | vatStoreDone (at_ : Nat) (o : FlashOut)
  /-- Replaces the vat with a stored image after the CRC and variant checks (R168). -/
  | vatLoad (c : HostCmd)
  /-- The vat lease expires, the vat is dropped and LAST_END becomes 3 (R167). -/
  | vatLeaseExpiry (at_ : Nat)
  /-- Creates or replaces a cask definition in the vat (R151). -/
  | caskDefine (c : HostCmd)
  /-- Removes a cask definition from the vat (R151). -/
  | caskDelete (c : HostCmd)
  /-- Lists defined casks or the direct members of a cask, from the live or the vat table (R151). -/
  | caskList (c : HostCmd)
  /-- Switches load channels on or off, with optional stagger and ramp (R176). -/
  | setOut (c : HostCmd)
  /-- Sets the PWM duty and frequency of load channels (R178). -/
  | setDuty (c : HostCmd)
  /-- Sets or spreads the PWM phase of load channels (R182). -/
  | setPhase (c : HostCmd)
  /-- Starts a timed pulse train on load channels (R183). -/
  | pulse (c : HostCmd)
  /-- Clears the over-current latch and lock and refills the retries, or clears open load (R202). -/
  | clearLatch (c : HostCmd)
  /-- A unit's stagger offset elapses and it leaves WAIT for its commanded mode (R176). -/
  | staggerElapsed (at_ : Nat) (n : Fin 48)
  /-- The ramp duty reaches 4095 and the channel enters ON (R177). -/
  | rampComplete (at_ : Nat) (n : Fin 48)
  /-- The last active time ends and the channel takes its rest level for good (R183). -/
  | pulseTrainComplete (at_ : Nat) (n : Fin 48)
  /-- The summed current stays below the threshold for 2 µs, ending DEMAG and recording its duration and energy (R187). -/
  | demagEnd (at_ : Nat) (n : Fin 48) (uj : Nat)
  /-- Four pin periods of at least 1 ÷ FMAX clear OVER and PIN_FAULT (R185). -/
  | pinFrequencyOk (at_ : Nat) (p : Fin 8) (periods : List Nat) (high : Nat)
  /-- A current above the threshold turns the channel off within 2 µs and sets OC_LATCH (R194). -/
  | ocLatchOff (at_ : Nat) (n : Fin 48) (ma : Nat)
  /-- The retry delay ends and a retry falls due (R197). -/
  | retryDue (at_ : Nat) (n : Fin 48)
  /-- After 1 s without a latch-off, RETRY_LEFT is refilled (R196). -/
  | retryRefill (at_ : Nat) (n : Fin 48)
  /-- The local detector reports 175 °C, the gate goes off and THERM_LATCH is set (R195). -/
  | thermalShutdown (at_ : Nat) (n : Fin 48)
  /-- The detector reports below 150 °C and THERM_LATCH clears (R195). -/
  | thermLatchClear (at_ : Nat) (n : Fin 48)
  /-- T_now has stayed above the ceiling for 100 ms and THERM_OVER is counted (R210). -/
  | thermOver (at_ : Nat) (c : Fin 16)
  /-- Queues valves for a peak with a start bound, or refuses the command DEFERRED (R232). -/
  | valveFire (c : HostCmd)
  /-- Puts valves into HOLD without a peak or restarts the hold duration (R232). -/
  | valveHold (c : HostCmd)
  /-- Releases valves and optionally clears their latches (R232). -/
  | valveRelease (c : HostCmd)
  /-- A queued peak starts once its group, bank and own release allow it (R236). -/
  | peakStart (at_ : Nat) (n : Fin 8) (vboost : Nat)
  /-- PEAK_TIME elapses and the valve enters DROP or RELEASE, with the open or miss check (R228). -/
  | peakEnd (at_ : Nat) (n : Fin 8) (topMa : Nat) (reachUs : Nat) (boost01mJ : Nat)
  /-- The current reaches I_HOLD, or DECAY_TMAX passes, and the valve enters HOLD (R228). -/
  | dropEnd (at_ : Nat) (n : Fin 8) (reached : Bool) (rec01mJ : Nat)
  /-- DURATION ends and the valve enters RELEASE (R228). -/
  | holdDurationEnd (at_ : Nat) (n : Fin 8)
  /-- The current stays below 50 mA for 2 µs, or DECAY_TMAX passes, and the valve goes OFF (R228). -/
  | valveReleaseComplete (at_ : Nat) (n : Fin 8) (reached : Bool) (r : ReleaseIn)
  /-- VBOOST reaches VTARGET − READY_MARGIN and the boost enters READY (R226). -/
  | boostReady (at_ : Nat) (vboost : Nat)
  /-- VBOOST falls below the ready level and the boost returns to CHARGE (R226). -/
  | boostNotReadyDrop (at_ : Nat) (vboost : Nat)
  /-- Returns the snapshot states, change latches and VALID bits (R258). -/
  | readInputs (c : HostCmd)
  /-- Returns the aggregate and the unit or member diagnostics (R156). -/
  | readDiag (c : HostCmd)
  /-- Returns VMEAN, and optionally IWET, of the ports (R259). -/
  | readSense (c : HostCmd)
  /-- Arms a watch for a port state that differs from REF (R260). -/
  | watchInputs (c : HostCmd)
  /-- TIMEOUT frames elapse without a difference and the watch completes with CAUSE 1 (R260). -/
  | watchTimeout (at_ : Nat)
  /-- N equal raw samples change a port's debounced state and set its latches (R252). -/
  | debouncedStateChange (at_ : Nat) (n : Fin 64) (c : Stood)
  /-- Sets field outputs on, off or pulsed (R284). -/
  | fieldSet (c : HostCmd)
  /-- Returns the field input snapshot, latches, gates and FV24 (R286). -/
  | fieldRead (c : HostCmd)
  /-- A good uplink cycle refreshes the mirror with input levels, gates, status and conversions (R271). -/
  | fieldUplinkCycle (at_ : Nat) (u : UplinkIn)
  /-- The link is lost, FLD is gated and outputs are commanded OFF (R275). -/
  | fieldLinkLoss (at_ : Nat) (cause : Nat)
  /-- An FV24 threshold crossing held long enough enters or leaves WARN, LOST or OVER (R277). -/
  | fv24StateChange (at_ : Nat) (fv24 dur : Nat)
  /-- The input filter accepts a new level, updates IN and the latches, and stamps FIO0–FIO3 edges (R280). -/
  | fieldInputEdge (at_ : Nat) (n : Fin 16) (l : LevelIn)
  /-- LIMITING held for LIM_TIME turns the output off with OC_LATCH (R282). -/
  | fioOcLatch (at_ : Nat) (l : LimitIn)
  /-- WIDTH elapses and the output takes the other level for good (R284). -/
  | fieldPulseEnd (at_ : Nat) (n : Fin 16)
  /-- Enters a frame into a controller's TX queue (R305). -/
  | canTx (c : HostCmd)
  /-- Reads and releases objects, log entries or TX events (R308). -/
  | canRead (c : HostCmd)
  /-- Reports status, starts recovery, aborts the queue or restarts a controller (R309). -/
  | canCtrl (c : HostCmd)
  /-- An error-free frame goes to a bound object, to the log or is discarded (R297). -/
  | canFrameReceived (at_ : Nat) (k : Fin 4) (f : CanFrame) (rec : Nat)
  /-- A frame leaves the TX queue and writes a TX event (R306). -/
  | canFrameTransmitted (at_ : Nat) (k : Fin 4) (err : Option Nat) (tec sinceSof : Nat)
  /-- A read of word 0 locks the object to the master and starts the lease (R300). -/
  | canObjWord0Read (at_ : Nat) (k : Fin 4) (o : Fin 128) (m : Master) (f : CodeFind)
  /-- The owner's read of the last word releases the object and clears NEW and LOST (R300). -/
  | canObjLastWordRead (at_ : Nat) (k : Fin 4) (o : Fin 128) (m : Master)
  /-- Fills and validates a publish buffer (R317). -/
  | linTx (c : HostCmd)
  /-- Reads and releases receive buffers (R318). -/
  | linRead (c : HostCmd)
  /-- Starts, stops or switches a commander schedule table (R316). -/
  | linSched (c : HostCmd)
  /-- Reports status or restarts a LIN channel (R319). -/
  | linCtrl (c : HostCmd)
  /-- A schedule slot starts and sends its header (R315). -/
  | linSlotStart (at_ : Nat) (c : Fin 6)
  /-- A subscribed response or error is written into the receive buffer (R318). -/
  | linFrameReceived (at_ : Nat) (c : Fin 6) (data : List Byte) (sum : Option Byte) (e : LinErrIn)
  /-- A read of word 0 locks a LIN receive buffer (R318). -/
  | linRxbufWord0Read (at_ : Nat) (c : Fin 6) (id : Fin 64) (m : Master)
  /-- The owner's read of word 3 releases the LIN buffer (R318). -/
  | linRxbufLastWordRead (at_ : Nat) (c : Fin 6) (id : Fin 64) (m : Master)
  /-- Enters a frame into a port's TX queue (R340). -/
  | t1sTx (c : HostCmd)
  /-- Returns and removes frames from the receive ring (R341). -/
  | t1sRead (c : HostCmd)
  /-- Returns and removes TX stamp queue entries (R342). -/
  | tsqRead (c : HostCmd)
  /-- Reports status, restarts a port or aborts its TX queue (R343). -/
  | t1sCtrl (c : HostCmd)
  /-- Captures the selected time bases (R344). -/
  | timeGet (c : HostCmd)
  /-- Sets the rate, steps or sets the value of TB1–TB3 (R345). -/
  | timeAdjust (c : HostCmd)
  /-- An accepted frame is stamped and written into the receive ring (R327). -/
  | t1sFrameReceived (at_ : Nat) (p : Fin 2) (bytes : List Byte) (fcsOk : Bool) (sinceSfd : Nat)
  /-- A frame leaves the MAC or is aborted, and writes its stamp entry if requested (R336). -/
  | t1sFrameSent (at_ : Nat) (p : Fin 2) (e : SendEnd) (collisions sinceSfd : Nat)
  /-- Sets REQ and moves NETMGR towards CONSENT, or to WAIT_SLEEP with FORCE (R363). -/
  | nmRequestSleep (c : HostCmd)
  /-- Clears REQ and acts as wake cause 1 (R363). -/
  | nmStayAwake (c : HostCmd)
  /-- Returns the NETMGR status, present and SI tables and wake record (R363). -/
  | nmStatus (c : HostCmd)
  /-- A ring frame updates the tables and passes the token, SA or wake (R351). -/
  | ringFrameReceived (at_ : Nat) (a : Fin 32) (dest : Fin 256) (ty : RingType) (b : SleepBits) (e : FrameEnd)
  /-- Returns the access status and log entries from FROM onwards (R390). -/
  | accStatus (c : HostCmd)
  /-- Starts the 125 kHz transponder challenge on the named coils (R380). -/
  | accChallenge (c : HostCmd)
  /-- The challenge completes with its result and is answered (R381). -/
  | accChallengeDone (at_ : Nat) (a b : CoilIn)
  /-- Starts writing a token slot and its keys as PENDING (R385). -/
  | accEnrol (c : HostCmd)
  /-- Sets or checks the dealer code, or closes the dealer window (R383). -/
  | accDealerCode (c : HostCmd)
  /-- Starts erasing a token slot (R386). -/
  | accRevoke (c : HostCmd)
  /-- Ends an open session with host cause 0 or 1 (R389). -/
  | accSessionEnd (c : HostCmd)
  /-- A complete Welulyr telegram is throttle-checked and validated (R370). -/
  | telegramReceived (at_ : Nat) (bytes : List Byte) (t : TelegramIn)
  /-- The LAST write completes and the session rules act (R371). -/
  | telegramAccepted (at_ : Nat) (o : FlashOut)
  /-- Zeroes a slot's code area and opens a load with its header and grants (R413). -/
  | appletLoadBegin (c : HostCmd)
  /-- Writes code words into the slot's code area (R413). -/
  | appletLoadCode (c : HostCmd)
  /-- Checks the code CRC and starts writing the store (R416). -/
  | appletLoadCommit (c : HostCmd)
  /-- The store write completes, GEN increments and COMMIT is answered (R416). -/
  | appletStoreWritten (at_ : Nat) (n : Fin 8) (o : FlashOut)
  /-- Erases a slot's store (R417). -/
  | appletUnload (c : HostCmd)
  /-- Stages an applet start with its budget in the vat (R419). -/
  | appletStart (c : HostCmd)
  /-- Stops the masked applet slots (R420). -/
  | appletStop (c : HostCmd)
  /-- Returns a slot's state, counters and latest trap (R426). -/
  | appletStatus (c : HostCmd)
  /-- Stages or revokes a precedence grant (R423). -/
  | appletPrecede (c : HostCmd)
  /-- Returns the collector status, recoveries and severe bits (R443). -/
  | faultStatus (c : HostCmd)
  /-- Returns the first record and the per-source captures (R443). -/
  | faultCapture (c : HostCmd)
  /-- Clears the counts and captures of sources, FIRST and FLTN_HOLD (R443). -/
  | faultClear (c : HostCmd)
  /-- Returns the pending bits and clears them at posting (R443). -/
  | faultNotify (c : HostCmd)
  /-- Injects events into a source to exercise its reaction path (R444). -/
  | faultTest (c : HostCmd)
  /-- WINDOW ms after it opened, the source returns to IDLE with COUNT 0 (R429). -/
  | faultWindowClose (at_ : Nat) (n : Fin 96)
  /-- The quiet period passes and RECOVERY is left at a racking, releasing channels (R437). -/
  | recoveryExit (at_ : Nat)
  /-- Asks every present block to grant, delay or refuse Park entry (R83). -/
  | enterPark (c : HostCmd)
  /-- Asks every present block to grant, delay or refuse Cellar entry (R83). -/
  | enterCellar (c : HostCmd)
  /-- The host has read the OK reply and HCSN is high (R85). -/
  | drainComplete (at_ : Nat)
  /-- At the first tick after the drain, the keepers take channels and the wake comparators arm (R85). -/
  | handOver (at_ : Nat)
  /-- 30 µs after hand-over, the clocks, rails and banks power down into Park (R85). -/
  | parkCommit (at_ : Nat)
  /-- 30 µs after hand-over, everything except the Cellar comparators powers down (R85). -/
  | cellarCommit (at_ : Nat)
  /-- A wake comparator fires, abandoning an entry or waking from Park or Cellar (R86). -/
  | wakeSourceFired (at_ : Nat) (codes : List Nat) (index : Nat) (cycles : Nat)
  /-- After a Park wake the device returns to Run within 3 ms and reloads blocks from SB1 (R88). -/
  | parkExit (at_ : Nat) (b : BootIn)
  /-- A Cellar wake makes a power-on reset with cause CELLAR_WAKE (R82). -/
  | cellarWake (at_ : Nat) (codes : List Nat)
  /-- Passes held or limp channels back to LOADSW with unchanged output (R76). -/
  | holdConfirm (c : HostCmd)
  /-- Writes SYSCTL_BLOCK_RST for the named block in step 3 (R148). -/
  | blockReset (c : HostCmd)
  /-- Reads up to 16 addresses through the host bridge (R149). -/
  | peek (c : HostCmd)
  /-- Writes up to 16 addresses through the host bridge (R149). -/
  | poke (c : HostCmd)
  /-- A write with code 0xB5 resets the named block and gates its clock for 1 µs (R69). -/
  | blockRstWrite (at_ : Nat) (m : Master) (w : RstIn)
  /-- 1 µs after a block reset, the block's clock gate opens again (R103). -/
  | blockGateReopen (at_ : Nat) (b : Nat)
  /-- A bus write to a register without a row of its own stores, clears or ignores per field type (R6). -/
  | registerWrite (at_ : Nat) (m : Master) (addr : Nat) (v : Word)
  /-- A read of the low word of a 64-bit value latches its high word for the master (R109). -/
  | lowWordRead (at_ : Nat) (m : Master) (addr : Nat)
  /-- A read of FIELD_EDGE_T latches the matching FIELD_EDGE_INFO for the master (R281). -/
  | fieldEdgeTRead (at_ : Nat) (m : Master) (n : Fin 4)
  /-- A read of SWIN_CHG returns and clears the register latches (R255). -/
  | swinChgRead (at_ : Nat) (m : Master) (hi : Bool)
  /-- A read of FIELD_CHG returns and clears the field register latches (R280). -/
  | fieldChgRead (at_ : Nat) (m : Master)
  /-- Writing 1 to a FAULT_PEND bit clears that notification (R442). -/
  | faultPendWrite (at_ : Nat) (m : Master) (i : Fin 3) (v : Word)
  /-- Arms MASK to corrupt the check bits of the next SRAM word write (R463). -/
  | memintInjectWrite (at_ : Nat) (m : Master) (v : Word)
  /-- A write to COP_CRC loads the window CRC as CRCI (R411). -/
  | copCrcWrite (at_ : Nat) (m : Master) (v : Word)
  /-- A write to COP_CRC_IN updates the window CRC as CRCW (R411). -/
  | copCrcInWrite (at_ : Nat) (m : Master) (v : Word)
  /-- Writing START to COP_AES_CTRL starts a window encryption (R411). -/
  | copAesStart (at_ : Nat) (m : Master) (v : Word)
  /-- rd ← ra + rb (R401). -/
  | add (rd ra rb : Fin 16)
  /-- rd ← ra − rb (R401). -/
  | sub (rd ra rb : Fin 16)
  /-- rd ← ra AND rb (R401). -/
  | and_ (rd ra rb : Fin 16)
  /-- rd ← ra OR rb (R401). -/
  | or_ (rd ra rb : Fin 16)
  /-- rd ← ra XOR rb (R401). -/
  | xor_ (rd ra rb : Fin 16)
  /-- Shift left by rb[4:0] (R401). -/
  | shl (rd ra rb : Fin 16)
  /-- Logical shift right by rb[4:0] (R401). -/
  | shr (rd ra rb : Fin 16)
  /-- Arithmetic shift right by rb[4:0] (R401). -/
  | sar (rd ra rb : Fin 16)
  /-- Low 32 bits of the product (R401). -/
  | mul (rd ra rb : Fin 16)
  /-- High 32 bits of the signed product (R401). -/
  | mulh (rd ra rb : Fin 16)
  /-- High 32 bits of the unsigned product (R401). -/
  | mulhu (rd ra rb : Fin 16)
  /-- Signed division, with defined results for division by zero (R401). -/
  | div (rd ra rb : Fin 16)
  /-- Unsigned division (R401). -/
  | divu (rd ra rb : Fin 16)
  /-- Signed remainder (R401). -/
  | rem (rd ra rb : Fin 16)
  /-- Unsigned remainder (R401). -/
  | remu (rd ra rb : Fin 16)
  /-- Signed minimum (R401). -/
  | min_ (rd ra rb : Fin 16)
  /-- Signed maximum (R401). -/
  | max_ (rd ra rb : Fin 16)
  /-- Unsigned minimum (R401). -/
  | minu (rd ra rb : Fin 16)
  /-- Unsigned maximum (R401). -/
  | maxu (rd ra rb : Fin 16)
  /-- rd ← (ra = rb) (R401). -/
  | seq (rd ra rb : Fin 16)
  /-- rd ← (ra ≠ rb) (R401). -/
  | sne (rd ra rb : Fin 16)
  /-- Signed less-than (R401). -/
  | slt (rd ra rb : Fin 16)
  /-- Unsigned less-than (R401). -/
  | sltu (rd ra rb : Fin 16)
  /-- Signed less-or-equal (R401). -/
  | sle (rd ra rb : Fin 16)
  /-- Unsigned less-or-equal (R401). -/
  | sleu (rd ra rb : Fin 16)
  /-- rd ← ra + sext(imm18) (R401). -/
  | addi (rd ra : Fin 16) (imm : BitVec 18)
  /-- rd ← ra AND zext(imm18) (R401). -/
  | andi (rd ra : Fin 16) (imm : BitVec 18)
  /-- rd ← ra OR zext(imm18) (R401). -/
  | ori (rd ra : Fin 16) (imm : BitVec 18)
  /-- rd ← ra XOR zext(imm18) (R401). -/
  | xori (rd ra : Fin 16) (imm : BitVec 18)
  /-- Shift left by an immediate (R401). -/
  | shli (rd ra : Fin 16) (sh : BitVec 5)
  /-- Logical shift right by an immediate (R401). -/
  | shri (rd ra : Fin 16) (sh : BitVec 5)
  /-- Arithmetic shift right by an immediate (R401). -/
  | sari (rd ra : Fin 16) (sh : BitVec 5)
  /-- Equality with an immediate (R401). -/
  | seqi (rd ra : Fin 16) (imm : BitVec 18)
  /-- Signed less-than with an immediate (R401). -/
  | slti (rd ra : Fin 16) (imm : BitVec 18)
  /-- Unsigned less-than with an immediate (R401). -/
  | sltui (rd ra : Fin 16) (imm : BitVec 18)
  /-- rd ← imm16 << 16 (R401). -/
  | lui (rd : Fin 16) (imm : BitVec 16)
  /-- Loads a word through a segment after the segment checks (R397). -/
  | ldw (rd ra : Fin 16) (seg : Fin 8) (imm : BitVec 15)
  /-- Loads a sign-extended half-word (R401). -/
  | ldh (rd ra : Fin 16) (seg : Fin 8) (imm : BitVec 15)
  /-- Loads a zero-extended half-word (R401). -/
  | ldhu (rd ra : Fin 16) (seg : Fin 8) (imm : BitVec 15)
  /-- Loads a sign-extended byte (R401). -/
  | ldb (rd ra : Fin 16) (seg : Fin 8) (imm : BitVec 15)
  /-- Loads a zero-extended byte (R401). -/
  | ldbu (rd ra : Fin 16) (seg : Fin 8) (imm : BitVec 15)
  /-- Stores a word through a segment (R401). -/
  | stw (rd ra : Fin 16) (seg : Fin 8) (imm : BitVec 15)
  /-- Stores a half-word (R401). -/
  | sth (rd ra : Fin 16) (seg : Fin 8) (imm : BitVec 15)
  /-- Stores a byte (R401). -/
  | stb (rd ra : Fin 16) (seg : Fin 8) (imm : BitVec 15)
  /-- Decrements DSP and stores a word in S1 (R401). -/
  | push (rd : Fin 16)
  /-- Loads a word from S1 and increments DSP (R401). -/
  | pop (rd : Fin 16)
  /-- Adds an immediate to DSP (R401). -/
  | dspadj (imm : BitVec 16)
  /-- rd ← DSP (R401). -/
  | dspget (rd : Fin 16)
  /-- DSP ← ra (R401). -/
  | dspset (ra : Fin 16)
  /-- Loads a FEATURE window word through S7 (R401). -/
  | rdfeat (rd : Fin 16) (imm : BitVec 18)
  /-- Reads a special register (R405). -/
  | mfs (rd : Fin 16) (imm : BitVec 18)
  /-- Branches if rt is zero (R401). -/
  | bz (rt : Fin 16) (disp : BitVec 22)
  /-- Branches if rt is non-zero (R401). -/
  | bnz (rt : Fin 16) (disp : BitVec 22)
  /-- Pushes the return offset, spilling to S6 if needed, and branches (R402). -/
  | call (disp : BitVec 26)
  /-- Pushes the return offset and jumps to ra (R401). -/
  | callr (ra : Fin 16)
  /-- Jumps to ra (R401). -/
  | jr (ra : Fin 16)
  /-- Calls the numbered service with g1–g6 (R404). -/
  | svc (n : BitVec 18)
  /-- Traps with BREAK (R401). -/
  | break (imm : BitVec 18)
  /-- Saturated rounded fixed-point multiply (R409). -/
  | qmul (rd ra rb : Fin 16) (f : BitVec 5)
  /-- Saturated fixed-point divide (R409). -/
  | qdiv (rd ra rb : Fin 16) (f : BitVec 5)
  /-- Saturated add (R409). -/
  | qadd (rd ra rb : Fin 16)
  /-- Saturated subtract (R409). -/
  | qsub (rd ra rb : Fin 16)
  /-- Clamps to a signed n-bit range (R409). -/
  | sat (rd ra : Fin 16) (n : Fin 33)
  /-- Clamps to an unsigned n-bit range (R409). -/
  | satu (rd ra : Fin 16) (n : Fin 32)
  /-- Saturated absolute value (R409). -/
  | qabs (rd ra : Fin 16)
  /-- Integer square root (R409). -/
  | isqrt (rd ra : Fin 16)
  /-- ACC ← ACC + ra × rb (R409). -/
  | mac (ra rb : Fin 16)
  /-- ACC ← ACC − ra × rb (R409). -/
  | msu (ra rb : Fin 16)
  /-- Reads ACC shifted, rounded and saturated (R409). -/
  | ard (rd : Fin 16) (f : BitVec 6)
  /-- Reads the low word of ACC (R409). -/
  | ardl (rd : Fin 16)
  /-- Reads the high word of ACC (R409). -/
  | ardh (rd : Fin 16)
  /-- Writes ACC from rb : ra (R409). -/
  | awr (ra rb : Fin 16)
  /-- Initializes the CRC register (R409). -/
  | crci (ra : Fin 16)
  /-- Updates the CRC with a word (R409). -/
  | crcw (ra : Fin 16)
  /-- Updates the CRC with a byte (R409). -/
  | crcb (ra : Fin 16)
  /-- Reads the final CRC (R409). -/
  | crcr (rd : Fin 16)
  /-- Writes an AES key word (R409). -/
  | akey (ra : Fin 16) (i : Fin 4)
  /-- Writes an AES input word (R409). -/
  | ain (ra : Fin 16) (i : Fin 4)
  /-- Reads an AES output word (R409). -/
  | aout (rd : Fin 16) (i : Fin 4)
  /-- VDD5 or VCORE is out of regulation for 5 µs and the device performs a power-on reset with RAIL set (R65). -/
  | railFault (at_ : Nat)
  /-- The checker finds the two command-engine cores disagreeing and a warm reset follows (R10). -/
  | ceLockstepMismatch (at_ : Nat)
  /-- The PLL locks to RC / 4 and the domains step back up to their working rates (R97). -/
  | pllRelockRc (at_ : Nat)
  /-- Every 10 µs of a source change, the divider of a running domain doubles or halves (R100). -/
  | dividerStep (at_ : Nat)
  /-- The PLL loses lock while its reference is in tolerance, and a warm reset follows as a fault reaction (R98). -/
  | pllUnlock (at_ : Nat)
  /-- No HCLK edge for 100 µs with HCSN low ends the transaction as a framing error (R119). -/
  | hclkIdleAbort (at_ : Nat) (words : List Word) (mode3 : Bool)
  /-- DEMAG has lasted more than 100 ms and CLAMP_LONG is counted (R187). -/
  | clampLong (at_ : Nat) (n : Fin 48)
  /-- Four short pin periods set OVER and hold the following channels off (R185). -/
  | pinOverFrequency (at_ : Nat) (p : Fin 8) (periods : List Nat) (high : Nat)
  /-- 16 chop periods with low current in HOLD set OPEN and release the valve (R230). -/
  | valveHoldOpen (at_ : Nat) (h : HoldIn)
  /-- LSn current above 16 A releases the valve and sets OC_LATCH (R241). -/
  | valveOc (at_ : Nat) (n : Fin 8)
  /-- High-side current above 30 A turns the bank off and releases both valves (R241). -/
  | valveBankOc (at_ : Nat) (b : Fin 4)
  /-- A valve or bank detector at 175 °C releases the valves and sets VTHERM (R241). -/
  | valveTherm (at_ : Nat) (bank : Bool) (n : Fin 8) (hot : Bool)
  /-- 50 ms in CHARGE puts the boost in FAULT and counts BOOST_FAIL (R226). -/
  | boostChargeTimeout (at_ : Nat)
  /-- VBOOST falls to VBAT + 2 V, the bleed ends and the boost is OFF (R226). -/
  | boostDischargeDone (at_ : Nat) (b : BoostIn)
  /-- VBOOST above 72 V turns the dump clamp on and counts BOOST_OV (R227). -/
  | boostDumpOn (at_ : Nat) (vboost : Nat)
  /-- VBOOST below VTARGET + 3 V turns the dump clamp off (R227). -/
  | boostDumpOff (at_ : Nat) (vboost : Nat)
  /-- Each Park cycle wets and samples every armed port and may fire a source-1 wake (R263). -/
  | parkSample (at_ : Nat) (pins : List PinLevel) (also : List Nat)
  /-- The power transfer starts and the island powers up, trains, downloads its configuration and reaches RUN (R270). -/
  | islandStart (l : TrainIn)
  /-- The island takes a downlink cycle of gate commands, configuration and clears (R271). -/
  | fieldDownlinkCycle (at_ : Nat) (crcOk : Bool)
  /-- Four cycles without a good downlink turn every island output off (R275). -/
  | islandDownlinkTimeout (at_ : Nat)
  /-- Every 1 ms while EN is 1, the mainland retrains a lost link (R275). -/
  | fieldRetrain (l : TrainIn)
  /-- A transfer over-current or a low island rail stops the transfer (R276). -/
  | fldPowerFault (at_ : Nat)
  /-- After 100 ms the transfer restarts, up to 3 times, and then enters PWR_FAIL (R276). -/
  | fldPowerRestart (at_ : Nat)
  /-- The output detector at 170 °C turns the output off and sets FTHERM (R282). -/
  | fioTherm (at_ : Nat) (n : Fin 16)
  /-- The output detector falls below 150 °C and the output returns at the next racking (R282). -/
  | fioThermRelease (at_ : Nat) (n : Fin 16)
  /-- Readback differs from the gate for (RB_N + 1) × 100 µs and RB_MISMATCH is set (R283). -/
  | fioReadbackMismatch (at_ : Nat) (n : Fin 16) (mv dur : Nat)
  /-- The self-test completes and either replaces failed elements and integrates, or fails (R296). -/
  | canSelftestDone (at_ : Nat) (k : Fin 4) (badObjs : List Nat) (filterOk : Bool)
  /-- 11 recessive bits put the controller in ACTIVE (R295). -/
  | canIntegrated (at_ : Nat) (k : Fin 4)
  /-- 128 × 11 recessive bits complete the recovery to ACTIVE (R295). -/
  | canBusOffRecovered (at_ : Nat) (k : Fin 4)
  /-- TXD dominant for 2.5 ms releases the bus and sets TXD_TIMEOUT (R294). -/
  | canTxdTimeout (at_ : Nat) (k : Fin 4) (stuck : Bool)
  /-- The lock lease expires and the object unlocks without clearing (R301). -/
  | canLockLeaseExpiry (at_ : Nat) (k : Fin 4) (o : Fin 128)
  /-- T_max passes without a response byte and ERR 1 is recorded (R314). -/
  | linNoResponse (at_ : Nat) (c : Fin 6)
  /-- The bus is dominant for 15 ms, the transmitter is released and the channel enters FAULT (R313). -/
  | linShort (at_ : Nat) (c : Fin 6)
  /-- Every 100 ms a faulted channel retries (R313). -/
  | linFaultRetry (at_ : Nat) (c : Fin 6) (recessive : Bool)
  /-- A dominant level of at least 150 µs on a sleeping group channel is wake cause 7 (R359). -/
  | linWakePulse (at_ : Nat) (c : Fin 6)
  /-- The PHY initializes and the port enters RUN (R324). -/
  | t1sPortStarted (at_ : Nat) (p : Fin 2)
  /-- A follower sees no BEACON for 400 µs, so PLCA_OK clears (R325). -/
  | plcaBeaconTimeout (at_ : Nat) (p : Fin 2)
  /-- A BEACON sets PLCA_OK on a follower or counts BCN_DUP on the coordinator (R325). -/
  | plcaBeaconReceived (at_ : Nat) (p : Fin 2)
  /-- AGE reaches SYNC_TMO and the base enters HOLDOVER (R337). -/
  | syncTimeout (at_ : Nat) (i : Fin 4)
  /-- A ring frame is transmitted, and an SA frame makes the ring commit point (R353). -/
  | ringFrameSent (at_ : Nat) (e : FrameEnd)
  /-- T_TYP after receiving the token, the device sends a RING to its successor (R351). -/
  | tokenHoldElapsed (at_ : Nat)
  /-- The successor is silent for T_MAX, so it is removed and the token is passed on (R351). -/
  | successorTimeout (at_ : Nat)
  /-- No token has arrived for T_MAX, so the device sends a RING (R351). -/
  | tokenTimeout (at_ : Nat)
  /-- T_WBS elapses and the group goes to BUS_SLEEP (R354). -/
  | waitBeforeSleepElapsed (at_ : Nat)
  /-- A wake cause withdraws consent, or wakes the ring and the group (R356). -/
  | networkWakeCause (at_ : Nat) (cause : Nat) (src : Nat)
  /-- A qualified outside WAKEL rise in Run is wake cause 3 (R358). -/
  | wakelOutsideRise (at_ : Nat)
  /-- The WAKEL drive ends after WAKEL_PULSE ms (R358). -/
  | wakelPulseEnd (at_ : Nat)
  /-- 65,536 PARK cycles without a restart put the transceivers to sleep and set FS_ACTIVE (R362). -/
  | netmgrFailSafe (at_ : Nat)
  /-- The enrol or revoke flash write completes and the command is answered (R385). -/
  | keyStoreWriteDone (at_ : Nat) (o : FlashOut)
  /-- The session timer expires and the session ends with cause 5 (R378). -/
  | sessionTimeout (at_ : Nat)
  /-- The throttling deadline passes and the invalid count restarts (R374). -/
  | throttleEnd (at_ : Nat)
  /-- An AHEAD resynchronization candidate lapses after 10 s (R373). -/
  | resyncCandidateExpiry (at_ : Nat) (n : Fin 8)
  /-- A PENDING slot is unconfirmed after 600 s and becomes EMPTY (R382). -/
  | pendingSlotExpiry (at_ : Nat) (n : Fin 8)
  /-- The dealer window ends after DEALER_WIN (R383). -/
  | dealerWindowClose (at_ : Nat)
  /-- The dealer code lockout deadline passes (R383). -/
  | dealerLockoutEnd (at_ : Nat)
  /-- A bus lock held for 512 SYS cycles expires and the port arbitrates again (R439). -/
  | busLockLeaseExpiry (at_ : Nat) (l : LockIn)
  /-- Blocks still delay after DELAY_MAX, so the entry is abandoned with BUSY (R84). -/
  | entryDelayLimit (at_ : Nat)
  /-- The reply is unread after 10 ms, so the entry is abandoned with REPLY_UNREAD (R85). -/
  | drainTimeout (at_ : Nat)
  /-- An encryption completes 12 cycles after it starts and BUSY clears (R410). -/
  | aesComplete (at_ : Nat)
  /-- Every RATE µs the scrubber reads the next word and applies the read outcomes (R456). -/
  | scrubRead (at_ : Nat) (pace : ScrubPace) (f : CodeFind) (syn : Bool) (p : PageErr)
  /-- A due SRAM row is copied to a spare row and remapped (R459). -/
  | rowReplacement (at_ : Nat)
  /-- A due flash page is rewritten into a spare page and remapped (R455). -/
  | flashRefresh (at_ : Nat)
  /-- Both flash copies of the ledger are rewritten after a replacement (R42). -/
  | ledgerRewriteDone (at_ : Nat)
  /-- A bus error while the controller receives raises REC, which can take the controller from ACTIVE to PASSIVE when REC reaches 128 (R295). -/
  | canReceiveError (at_ : Nat) (k : Fin 4) (lec : Nat) (rec : Nat)
  /-- A responder receives a header and sends the response from its publish buffer, or counts it in SYNC_PARITY when parity or sync is bad (R314). -/
  | linHeaderReceived (at_ : Nat) (c : Fin 6) (pid : Fin 256) (sync : Bool)
  /-- After 4 s of bus inactivity, a LIN responder of the group enters SLEEP (R359). -/
  | linBusInactivity (at_ : Nat) (c : Fin 6)
  /-- The lock lease of a LIN receive buffer expires, the buffer unlocks without clearing NEW or LOST, and LIN_LOCK_LEASE is counted (R318). -/
  | linBufferLeaseExpiry (at_ : Nat) (c : Fin 6) (id : Fin 64)
  /-- 150 ms after its wake pulse, a LIN commander of the group enters IDLE (R359). -/
  | linIdleAfterWake (at_ : Nat) (c : Fin 6)
  /-- Pops the return offset, filling from S6 if needed, or ends the run at depth 0 (R403). -/
  | ret
  /-- Ends the run for this frame (R403). -/
  | yield
  /-- Clears ACC (R409). -/
  | aclr
  /-- Starts an AES-128 encryption of IN under KEY (R410). -/
  | aenc
  /-- Service that returns the debounced input states (R424). -/
  | readIn
  /-- Service that returns and clears the slot's change latches (R424). -/
  | inChg
  /-- Service that returns the outcome of a request of the previous run (R424). -/
  | result
  /-- Service that returns a node's aggregate word (R424). -/
  | diag
  /-- Service that returns a port's SWIN_IN_SENSE (R424). -/
  | sense
  /-- Service that returns the field input word (R424). -/
  | fieldIn
  /-- Service that returns a time base at the frame tick (R424). -/
  | tickTime
  /-- Service that returns ACC_STAT (R424). -/
  | svcAccStat
  /-- Service that checks and queues an applet request for the next racking (R425). -/
  | request
  /-- Service that queues an applet request whose payload comes from a segment (R425). -/
  | requestBuf
  deriving DecidableEq, Repr

end Sys2Proof
end

