-- ==== Sys2Proof/WellFormed.lean ====
section
/-! DEFINITION. Which commands are well formed: every operand inside the width or the length
that the spec gives it. -/

namespace Sys2Proof

/-- FRAME_PHASE counts 0–799,999 PER cycles (R116). -/
def wfAt (a : Nat) : Bool := decide (a < 800000)
/-- Packet fields (R122): 8-bit SEQ, 16-bit target and flags, at most 254 payload words. -/
def wfHost (c : HostCmd) : Bool :=
  decide (c.seq < 256) && decide (c.node < 65536) && decide (c.flags < 65536) &&
  decide (c.payload.length ≤ 254)
/-- Measurements of a press tick: one reading per cluster, quadrant, valve and bank; ports 0–63. -/
def wfTick (i : TickIn) : Bool :=
  decide (i.theta.length = 16) && decide (i.quads.length = 4) && decide (i.vbatMv < 65536) &&
  decide (i.parkHz < 65536) && decide (i.vboost < 65536) && decide (i.valveMa.length = 8) &&
  decide (i.valveSq.length = 8) && decide (i.bankSq.length = 4) && i.contacts.all (fun c => decide (c.1 < 64)) &&
  decide (i.pins.length = 8)
/-- Samples of the diagnostic window: one entry per channel, valve and bank. -/
def wfDiag (d : DiagIn) : Bool :=
  decide (d.load.length = 48) && decide (d.valveMa.length = 8) && decide (d.bankMa.length = 4) &&
  decide (d.iin < 65536)
/-- What the boot ROM finds: at most three pairs of fuse reads and 33 monitor windows, 16 patches, rows
0–255 of six banks. -/
def wfBoot (b : BootIn) : Bool :=
  decide (b.fuses.length ≤ 3) && decide (b.xclkWin.length ≤ 33) && decide (b.patches < 65536) && decide (b.rejected < 65536) &&
  decide (b.level < 65536) && b.badRows.all (fun r => decide (r < 6 * 256)) &&
  b.badSpares.all (fun r => decide (r < 6 * 16))
/-- A received CAN frame (R298): an identifier of 11 or 29 bits and at most 64 data bytes. -/
def wfCan (f : CanFrame) : Bool :=
  decide (f.id < (if f.ide then 2 ^ 29 else 2 ^ 11)) && decide (f.dlc < 16) &&
  decide (f.data.length ≤ 64)
/-- An uplink cycle: 16 channels. -/
def wfUplink (u : UplinkIn) : Bool :=
  decide (u.limiting < 65536) && decide (u.conv < 16)
/-- A bus address has 32 bits. -/
def wfAddr (a : Nat) : Bool := decide (a < 2 ^ 32)
/-- A flash page number is 0–1023 (R448). -/
def wfFlash (o : FlashOut) : Bool :=
  match o with
  | .good => true
  | .badPage p => decide (p < 1024)
/-- Bytes and words of a page (R447). -/
def wfPage (p : PageErr) : Bool := p.bytes.all (fun b => decide (b < 1024)) && p.hints.all (fun w => decide (w < 256))
def wfFind (f : CodeFind) : Bool := match f with | .two p => wfPage p | _ => true

/-- A reception: at most 64 bytes and one period for each bit from the twelfth before the sync byte on (R366). -/
def wfTel (b : List Byte) (t : TelegramIn) : Bool := decide (b.length ≤ 64) && decide (t.periods.length ≤ 532)

/-- The operands of a command fit the widths that the spec gives them. -/
def wellFormed (i : Instr) : Bool :=
  match i with
  | .vbatPowerOn b => wfBoot b
  | .firstPressTick i => wfTick i
  | .brownOut at_ => wfAt at_
  | .railFault at_ => wfAt at_
  | .lowSupplyEntry at_ => wfAt at_
  | .lowSupplyEnd at_ => wfAt at_
  | .overvoltageEntry at_ => wfAt at_
  | .overvoltageEnd at_ => wfAt at_
  | .vioLow at_ => wfAt at_
  | .vioRestored at_ => wfAt at_
  | .rstnLowPulse at_ _ => wfAt at_
  | .rstnRelease at_ b => wfAt at_ && wfBoot b
  | .bootRomStart at_ b => wfAt at_ && wfBoot b
  | .watchdogExpiry w => wfAt w.at_
  | .ceLockstepMismatch at_ => wfAt at_
  | .xclkFailure at_ _ => wfAt at_
  | .pllRelockRc at_ => wfAt at_
  | .dividerStep at_ => wfAt at_
  | .pllUnlock at_ => wfAt at_
  | .pressTick i => wfTick i
  | .diagnosticSampling at_ d => wfAt at_ && wfDiag d
  | .appletWindowClose at_ => wfAt at_
  | .commandTransaction at_ words _ => wfAt at_ && decide (words.length ≤ 5120)
  | .replyReadTransaction at_ _ _ _ => wfAt at_
  | .invalidTransaction at_ _ _ => wfAt at_
  | .hclkIdleAbort at_ _ _ => wfAt at_
  | .heldReplyPosted at_ => wfAt at_
  | .deferredCommandDue at_ => wfAt at_
  | .hostLossTimeout at_ => wfAt at_
  | .hostLossErrLimit at_ => wfAt at_
  | .holdLeaseExpiry at_ => wfAt at_
  | .limpnAsserted at_ => wfAt at_
  | .limpnReleased at_ => wfAt at_
  | .nop c => wfHost c
  | .ping c => wfHost c
  | .getStatus c => wfHost c
  | .getFeatures c => wfHost c
  | .cancel c => wfHost c
  | .vatOpen c => wfHost c
  | .vatWrite c => wfHost c
  | .vatCheck c => wfHost c
  | .vatCheckDone at_ => wfAt at_
  | .vatBottle c => wfHost c
  | .vatDiscard c => wfHost c
  | .vatRead c => wfHost c
  | .vatStore c => wfHost c
  | .vatStoreDone at_ o => wfAt at_ && wfFlash o
  | .vatLoad c => wfHost c
  | .vatLeaseExpiry at_ => wfAt at_
  | .caskDefine c => wfHost c
  | .caskDelete c => wfHost c
  | .caskList c => wfHost c
  | .setOut c => wfHost c
  | .setDuty c => wfHost c
  | .setPhase c => wfHost c
  | .pulse c => wfHost c
  | .clearLatch c => wfHost c
  | .staggerElapsed at_ _ => wfAt at_
  | .rampComplete at_ _ => wfAt at_
  | .pulseTrainComplete at_ _ => wfAt at_
  | .demagEnd at_ _ _ => wfAt at_
  | .clampLong at_ _ => wfAt at_
  | .pinOverFrequency at_ _ _ _ => wfAt at_
  | .pinFrequencyOk at_ _ _ _ => wfAt at_
  | .ocLatchOff at_ _ _ => wfAt at_
  | .retryDue at_ _ => wfAt at_
  | .retryRefill at_ _ => wfAt at_
  | .thermalShutdown at_ _ => wfAt at_
  | .thermLatchClear at_ _ => wfAt at_
  | .thermOver at_ _ => wfAt at_
  | .valveFire c => wfHost c
  | .valveHold c => wfHost c
  | .valveRelease c => wfHost c
  | .peakStart at_ _ _ => wfAt at_
  | .peakEnd at_ _ _ _ _ => wfAt at_
  | .dropEnd at_ _ _ _ => wfAt at_
  | .holdDurationEnd at_ _ => wfAt at_
  | .valveReleaseComplete at_ _ _ _ => wfAt at_
  | .valveHoldOpen at_ _ => wfAt at_
  | .valveOc at_ _ => wfAt at_
  | .valveBankOc at_ _ => wfAt at_
  | .valveTherm at_ _ _ _ => wfAt at_
  | .boostReady at_ _ => wfAt at_
  | .boostNotReadyDrop at_ _ => wfAt at_
  | .boostChargeTimeout at_ => wfAt at_
  | .boostDischargeDone at_ _ => wfAt at_
  | .boostDumpOn at_ _ => wfAt at_
  | .boostDumpOff at_ _ => wfAt at_
  | .readInputs c => wfHost c
  | .readDiag c => wfHost c
  | .readSense c => wfHost c
  | .watchInputs c => wfHost c
  | .watchTimeout at_ => wfAt at_
  | .debouncedStateChange at_ _ _ => wfAt at_
  | .parkSample at_ _ _ => wfAt at_
  | .fieldSet c => wfHost c
  | .fieldRead c => wfHost c
  | .islandStart l => wfAt l.at_
  | .fieldUplinkCycle at_ u => wfAt at_ && wfUplink u
  | .fieldDownlinkCycle at_ _ => wfAt at_
  | .fieldLinkLoss at_ cause => wfAt at_ && decide (cause < 8)
  | .islandDownlinkTimeout at_ => wfAt at_
  | .fieldRetrain l => wfAt l.at_
  | .fldPowerFault at_ => wfAt at_
  | .fldPowerRestart at_ => wfAt at_
  | .fv24StateChange at_ _ _ => wfAt at_
  | .fieldInputEdge at_ _ _ => wfAt at_
  | .fioOcLatch at_ _ => wfAt at_
  | .fioTherm at_ _ => wfAt at_
  | .fioThermRelease at_ _ => wfAt at_
  | .fioReadbackMismatch at_ _ _ _ => wfAt at_
  | .fieldPulseEnd at_ _ => wfAt at_
  | .canTx c => wfHost c
  | .canRead c => wfHost c
  | .canCtrl c => wfHost c
  | .canSelftestDone at_ _ _ _ => wfAt at_
  | .canIntegrated at_ _ => wfAt at_
  | .canFrameReceived at_ _ f _ => wfAt at_ && wfCan f
  | .canFrameTransmitted at_ _ _ _ _ => wfAt at_
  | .canBusOffRecovered at_ _ => wfAt at_
  | .canTxdTimeout at_ _ _ => wfAt at_
  | .canObjWord0Read at_ _ _ _ f => wfAt at_ && wfFind f
  | .canObjLastWordRead at_ _ _ _ => wfAt at_
  | .canLockLeaseExpiry at_ _ _ => wfAt at_
  | .linTx c => wfHost c
  | .linRead c => wfHost c
  | .linSched c => wfHost c
  | .linCtrl c => wfHost c
  | .linSlotStart at_ _ => wfAt at_
  | .linFrameReceived at_ _ data _ _ => wfAt at_ && decide (data.length ≤ 8)
  | .linNoResponse at_ _ => wfAt at_
  | .linShort at_ _ => wfAt at_
  | .linFaultRetry at_ _ _ => wfAt at_
  | .linRxbufWord0Read at_ _ _ _ => wfAt at_
  | .linRxbufLastWordRead at_ _ _ _ => wfAt at_
  | .linWakePulse at_ _ => wfAt at_
  | .t1sTx c => wfHost c
  | .t1sRead c => wfHost c
  | .tsqRead c => wfHost c
  | .t1sCtrl c => wfHost c
  | .timeGet c => wfHost c
  | .timeAdjust c => wfHost c
  | .t1sPortStarted at_ _ => wfAt at_
  | .t1sFrameReceived at_ _ bytes _ _ => wfAt at_ && decide (bytes.length ≤ 2048)
  | .t1sFrameSent at_ _ _ _ _ => wfAt at_
  | .plcaBeaconTimeout at_ _ => wfAt at_
  | .plcaBeaconReceived at_ _ => wfAt at_
  | .syncTimeout at_ _ => wfAt at_
  | .nmRequestSleep c => wfHost c
  | .nmStayAwake c => wfHost c
  | .nmStatus c => wfHost c
  | .ringFrameReceived at_ _ _ _ _ _ => wfAt at_
  | .ringFrameSent at_ _ => wfAt at_
  | .tokenHoldElapsed at_ => wfAt at_
  | .successorTimeout at_ => wfAt at_
  | .tokenTimeout at_ => wfAt at_
  | .waitBeforeSleepElapsed at_ => wfAt at_
  | .networkWakeCause at_ cause _ => wfAt at_ && decide (cause < 16)
  | .wakelOutsideRise at_ => wfAt at_
  | .wakelPulseEnd at_ => wfAt at_
  | .netmgrFailSafe at_ => wfAt at_
  | .accStatus c => wfHost c
  | .accChallenge c => wfHost c
  | .accChallengeDone at_ _ _ => wfAt at_
  | .accEnrol c => wfHost c
  | .accDealerCode c => wfHost c
  | .accRevoke c => wfHost c
  | .keyStoreWriteDone at_ o => wfAt at_ && wfFlash o
  | .accSessionEnd c => wfHost c
  | .telegramReceived at_ b t => wfAt at_ && wfTel b t
  | .telegramAccepted at_ o => wfAt at_ && wfFlash o
  | .sessionTimeout at_ => wfAt at_
  | .throttleEnd at_ => wfAt at_
  | .resyncCandidateExpiry at_ _ => wfAt at_
  | .pendingSlotExpiry at_ _ => wfAt at_
  | .dealerWindowClose at_ => wfAt at_
  | .dealerLockoutEnd at_ => wfAt at_
  | .appletLoadBegin c => wfHost c
  | .appletLoadCode c => wfHost c
  | .appletLoadCommit c => wfHost c
  | .appletStoreWritten at_ _ o => wfAt at_ && wfFlash o
  | .appletUnload c => wfHost c
  | .appletStart c => wfHost c
  | .appletStop c => wfHost c
  | .appletStatus c => wfHost c
  | .appletPrecede c => wfHost c
  | .faultStatus c => wfHost c
  | .faultCapture c => wfHost c
  | .faultClear c => wfHost c
  | .faultNotify c => wfHost c
  | .faultTest c => wfHost c
  | .faultWindowClose at_ _ => wfAt at_
  | .recoveryExit at_ => wfAt at_
  | .busLockLeaseExpiry at_ _ => wfAt at_
  | .enterPark c => wfHost c
  | .enterCellar c => wfHost c
  | .entryDelayLimit at_ => wfAt at_
  | .drainComplete at_ => wfAt at_
  | .drainTimeout at_ => wfAt at_
  | .handOver at_ => wfAt at_
  | .parkCommit at_ => wfAt at_
  | .cellarCommit at_ => wfAt at_
  | .wakeSourceFired at_ _ _ _ => wfAt at_
  | .parkExit at_ b => wfAt at_ && wfBoot b
  | .cellarWake at_ _ => wfAt at_
  | .holdConfirm c => wfHost c
  | .blockReset c => wfHost c
  | .peek c => wfHost c
  | .poke c => wfHost c
  | .blockRstWrite at_ _ _ => wfAt at_
  | .blockGateReopen at_ _ => wfAt at_
  | .registerWrite at_ _ addr _ => wfAt at_ && wfAddr addr
  | .lowWordRead at_ _ addr => wfAt at_ && wfAddr addr
  | .fieldEdgeTRead at_ _ _ => wfAt at_
  | .swinChgRead at_ _ _ => wfAt at_
  | .fieldChgRead at_ _ => wfAt at_
  | .faultPendWrite at_ _ _ _ => wfAt at_
  | .memintInjectWrite at_ _ _ => wfAt at_
  | .copCrcWrite at_ _ _ => wfAt at_
  | .copCrcInWrite at_ _ _ => wfAt at_
  | .copAesStart at_ _ _ => wfAt at_
  | .aesComplete at_ => wfAt at_
  | .scrubRead at_ _ f _ p => wfAt at_ && wfFind f && wfPage p
  | .rowReplacement at_ => wfAt at_
  | .flashRefresh at_ => wfAt at_
  | .ledgerRewriteDone at_ => wfAt at_
  | .add _ _ _ => true
  | .sub _ _ _ => true
  | .and_ _ _ _ => true
  | .or_ _ _ _ => true
  | .xor_ _ _ _ => true
  | .shl _ _ _ => true
  | .shr _ _ _ => true
  | .sar _ _ _ => true
  | .mul _ _ _ => true
  | .mulh _ _ _ => true
  | .mulhu _ _ _ => true
  | .div _ _ _ => true
  | .divu _ _ _ => true
  | .rem _ _ _ => true
  | .remu _ _ _ => true
  | .min_ _ _ _ => true
  | .max_ _ _ _ => true
  | .minu _ _ _ => true
  | .maxu _ _ _ => true
  | .seq _ _ _ => true
  | .sne _ _ _ => true
  | .slt _ _ _ => true
  | .sltu _ _ _ => true
  | .sle _ _ _ => true
  | .sleu _ _ _ => true
  | .addi _ _ _ => true
  | .andi _ _ _ => true
  | .ori _ _ _ => true
  | .xori _ _ _ => true
  | .shli _ _ _ => true
  | .shri _ _ _ => true
  | .sari _ _ _ => true
  | .seqi _ _ _ => true
  | .slti _ _ _ => true
  | .sltui _ _ _ => true
  | .lui _ _ => true
  | .ldw _ _ _ _ => true
  | .ldh _ _ _ _ => true
  | .ldhu _ _ _ _ => true
  | .ldb _ _ _ _ => true
  | .ldbu _ _ _ _ => true
  | .stw _ _ _ _ => true
  | .sth _ _ _ _ => true
  | .stb _ _ _ _ => true
  | .push _ => true
  | .pop _ => true
  | .dspadj _ => true
  | .dspget _ => true
  | .dspset _ => true
  | .rdfeat _ _ => true
  | .mfs _ _ => true
  | .bz _ _ => true
  | .bnz _ _ => true
  | .call _ => true
  | .callr _ => true
  | .jr _ => true
  | .ret => true
  | .svc _ => true
  | .yield => true
  | .break _ => true
  | .qmul _ _ _ _ => true
  | .qdiv _ _ _ _ => true
  | .qadd _ _ _ => true
  | .qsub _ _ _ => true
  | .sat _ _ n => decide (n.val ≠ 0)
  | .satu _ _ n => decide (n.val ≠ 0)
  | .qabs _ _ => true
  | .isqrt _ _ => true
  | .aclr => true
  | .mac _ _ => true
  | .msu _ _ => true
  | .ard _ _ => true
  | .ardl _ => true
  | .ardh _ => true
  | .awr _ _ => true
  | .crci _ => true
  | .crcw _ => true
  | .crcb _ => true
  | .crcr _ => true
  | .akey _ _ => true
  | .ain _ _ => true
  | .aenc => true
  | .aout _ _ => true
  | .readIn => true
  | .inChg => true
  | .result => true
  | .diag => true
  | .sense => true
  | .fieldIn => true
  | .tickTime => true
  | .svcAccStat => true
  | .request => true
  | .requestBuf => true
  | .canReceiveError at_ _ lec _ => wfAt at_ && decide (lec < 8)
  | .linHeaderReceived at_ _ _ _ => wfAt at_
  | .linBusInactivity at_ _ => wfAt at_
  | .linBufferLeaseExpiry at_ _ _ => wfAt at_
  | .linIdleAfterWake at_ _ => wfAt at_

end Sys2Proof
end

