-- ==== Sys2Proof/Decode.lean ====
section
/-! DEFINITION. The table gives no row any bits, so no word of it spells a command. The XK32
instruction words of the applet core do have an encoding (R400, R401, R409): `decodeXk` reads one and
`encodeXk` writes one. -/

namespace Sys2Proof

/-- The command that a word spells by the table's bits: the table gives its rows none. -/
def decodeTableWord (_nbits _w : Nat) : Option Instr := none

/-! ### Instruction formats (R400) -/

/-- Format R: op, rd, ra, rb, fn. -/
def fmtR (op : Nat) (rd ra rb : Fin 16) (fn : Nat) : Word :=
  w32 (op * 2 ^ 26 + rd.val * 2 ^ 22 + ra.val * 2 ^ 18 + rb.val * 2 ^ 14 + fn)
/-- Format I: op, rd, ra, imm18. -/
def fmtI (op : Nat) (rd ra : Fin 16) (imm : Nat) : Word :=
  w32 (op * 2 ^ 26 + rd.val * 2 ^ 22 + ra.val * 2 ^ 18 + imm)
/-- Format U: op, rd, imm16. -/
def fmtU (op : Nat) (rd : Fin 16) (imm : Nat) : Word := w32 (op * 2 ^ 26 + rd.val * 2 ^ 22 + imm)
/-- Format M: op, rd, ra, segment, imm15. -/
def fmtM (op : Nat) (rd ra : Fin 16) (seg : Fin 8) (imm : Nat) : Word :=
  w32 (op * 2 ^ 26 + rd.val * 2 ^ 22 + ra.val * 2 ^ 18 + seg.val * 2 ^ 15 + imm)
/-- Format B: op, rt, disp22. -/
def fmtB (op : Nat) (rt : Fin 16) (disp : Nat) : Word := w32 (op * 2 ^ 26 + rt.val * 2 ^ 22 + disp)
/-- Format J: op, disp26. -/
def fmtJ (op : Nat) (disp : Nat) : Word := w32 (op * 2 ^ 26 + disp)
/-- Format C: op, rd, ra, rb, cfn, imm8. -/
def fmtC (op : Nat) (rd ra rb : Fin 16) (cfn imm : Nat) : Word :=
  w32 (op * 2 ^ 26 + rd.val * 2 ^ 22 + ra.val * 2 ^ 18 + rb.val * 2 ^ 14 + cfn * 2 ^ 8 + imm)

/-- A register field of four bits. -/
def regField (w : Word) (lo : Nat) : Fin 16 := Fin.ofNat 16 (bits w lo 4)

/-! ### Decoding -/

/-- ALU functions, major opcode 0x00. -/
def decodeAlu (fn : Nat) (rd ra rb : Fin 16) : Option Instr :=
  match fn with
  | 0x00 => some (.add rd ra rb) | 0x01 => some (.sub rd ra rb) | 0x02 => some (.and_ rd ra rb)
  | 0x03 => some (.or_ rd ra rb) | 0x04 => some (.xor_ rd ra rb) | 0x05 => some (.shl rd ra rb)
  | 0x06 => some (.shr rd ra rb) | 0x07 => some (.sar rd ra rb) | 0x08 => some (.mul rd ra rb)
  | 0x09 => some (.mulh rd ra rb) | 0x0A => some (.mulhu rd ra rb) | 0x0B => some (.div rd ra rb)
  | 0x0C => some (.divu rd ra rb) | 0x0D => some (.rem rd ra rb) | 0x0E => some (.remu rd ra rb)
  | 0x0F => some (.min_ rd ra rb) | 0x10 => some (.max_ rd ra rb) | 0x11 => some (.minu rd ra rb)
  | 0x12 => some (.maxu rd ra rb)
  | _ => none

/-- Comparisons, major opcode 0x01. -/
def decodeCmp (fn : Nat) (rd ra rb : Fin 16) : Option Instr :=
  match fn with
  | 0x0 => some (.seq rd ra rb) | 0x1 => some (.sne rd ra rb) | 0x2 => some (.slt rd ra rb)
  | 0x3 => some (.sltu rd ra rb) | 0x4 => some (.sle rd ra rb) | 0x5 => some (.sleu rd ra rb)
  | _ => none

/-- An instruction where a condition on its fields holds, none otherwise. -/
def onlyIf (p : Bool) (i : Instr) : Option Instr := if p then some i else none

/-- Coprocessor operations (R409). -/
def decodeCop (op cfn imm : Nat) (rd ra rb : Fin 16) : Option Instr :=
  match op, cfn with
  | 0x3C, 0x00 => onlyIf (imm < 32) (.qmul rd ra rb (BitVec.ofNat 5 imm))
  | 0x3C, 0x01 => onlyIf (imm < 32) (.qdiv rd ra rb (BitVec.ofNat 5 imm))
  | 0x3C, 0x02 => onlyIf (imm = 0) (.qadd rd ra rb)
  | 0x3C, 0x03 => onlyIf (imm = 0) (.qsub rd ra rb)
  | 0x3C, 0x04 => onlyIf (rb = 0 && decide (1 ≤ imm) && decide (imm ≤ 32)) (.sat rd ra (Fin.ofNat 33 imm))
  | 0x3C, 0x05 => onlyIf (rb = 0 && decide (1 ≤ imm) && decide (imm ≤ 31)) (.satu rd ra (Fin.ofNat 32 imm))
  | 0x3C, 0x06 => onlyIf (rb = 0 && decide (imm = 0)) (.qabs rd ra)
  | 0x3C, 0x07 => onlyIf (rb = 0 && decide (imm = 0)) (.isqrt rd ra)
  | 0x3D, 0x00 => onlyIf (rd = 0 && ra = 0 && rb = 0 && decide (imm = 0)) .aclr
  | 0x3D, 0x01 => onlyIf (rd = 0 && decide (imm = 0)) (.mac ra rb)
  | 0x3D, 0x02 => onlyIf (rd = 0 && decide (imm = 0)) (.msu ra rb)
  | 0x3D, 0x03 => onlyIf (ra = 0 && rb = 0 && decide (imm < 64)) (.ard rd (BitVec.ofNat 6 imm))
  | 0x3D, 0x04 => onlyIf (ra = 0 && rb = 0 && decide (imm = 0)) (.ardl rd)
  | 0x3D, 0x05 => onlyIf (ra = 0 && rb = 0 && decide (imm = 0)) (.ardh rd)
  | 0x3D, 0x06 => onlyIf (rd = 0 && decide (imm = 0)) (.awr ra rb)
  | 0x3E, 0x00 => onlyIf (rd = 0 && rb = 0 && decide (imm = 0)) (.crci ra)
  | 0x3E, 0x01 => onlyIf (rd = 0 && rb = 0 && decide (imm = 0)) (.crcw ra)
  | 0x3E, 0x02 => onlyIf (rd = 0 && rb = 0 && decide (imm = 0)) (.crcb ra)
  | 0x3E, 0x03 => onlyIf (ra = 0 && rb = 0 && decide (imm = 0)) (.crcr rd)
  | 0x3F, 0x00 => onlyIf (rd = 0 && rb = 0 && decide (imm < 4)) (.akey ra (Fin.ofNat 4 imm))
  | 0x3F, 0x01 => onlyIf (rd = 0 && rb = 0 && decide (imm < 4)) (.ain ra (Fin.ofNat 4 imm))
  | 0x3F, 0x02 => onlyIf (rd = 0 && ra = 0 && rb = 0 && decide (imm = 0)) .aenc
  | 0x3F, 0x03 => onlyIf (ra = 0 && rb = 0 && decide (imm < 4)) (.aout rd (Fin.ofNat 4 imm))
  | _, _ => none

/-- The instruction that a word encodes; none where it traps with ILLEGAL (R400, R401, R409). The
displacement of DSPADJ is kept without its two low bits, which must be 0. -/
def decodeXk (w : Word) : Option Instr :=
  let op := bits w 26 6
  let rd := regField w 22
  let ra := regField w 18
  let rb := regField w 14
  let fn := bits w 0 14
  let i18 := bits w 0 18
  let imm := BitVec.ofNat 18 i18
  let sh := BitVec.ofNat 5 i18
  let seg := Fin.ofNat 8 (bits w 15 3)
  let i15 := BitVec.ofNat 15 (bits w 0 15)
  match op with
  | 0x00 => decodeAlu fn rd ra rb
  | 0x01 => decodeCmp fn rd ra rb
  | 0x02 => some (.addi rd ra imm)
  | 0x03 => some (.andi rd ra imm)
  | 0x04 => some (.ori rd ra imm)
  | 0x05 => some (.xori rd ra imm)
  | 0x06 => onlyIf (i18 < 32) (.shli rd ra sh)
  | 0x07 => onlyIf (i18 < 32) (.shri rd ra sh)
  | 0x08 => onlyIf (i18 < 32) (.sari rd ra sh)
  | 0x09 => some (.seqi rd ra imm)
  | 0x0A => some (.slti rd ra imm)
  | 0x0B => some (.sltui rd ra imm)
  | 0x0C => onlyIf (bits w 16 6 = 0) (.lui rd (BitVec.ofNat 16 (bits w 0 16)))
  | 0x10 => some (.ldw rd ra seg i15)
  | 0x11 => some (.ldh rd ra seg i15)
  | 0x12 => some (.ldhu rd ra seg i15)
  | 0x13 => some (.ldb rd ra seg i15)
  | 0x14 => some (.ldbu rd ra seg i15)
  | 0x15 => some (.stw rd ra seg i15)
  | 0x16 => some (.sth rd ra seg i15)
  | 0x17 => some (.stb rd ra seg i15)
  | 0x18 => onlyIf (ra = 0 && decide (i18 = 0)) (.push rd)
  | 0x19 => onlyIf (ra = 0 && decide (i18 = 0)) (.pop rd)
  | 0x1A => onlyIf (rd = 0 && ra = 0 && decide (i18 % 4 = 0)) (.dspadj (BitVec.ofNat 16 (i18 / 4)))
  | 0x1B =>
      match fn with
      | 0 => onlyIf (ra = 0 && rb = 0) (.dspget rd)
      | 1 => onlyIf (rd = 0 && rb = 0) (.dspset ra)
      | _ => none
  | 0x1C => onlyIf (ra = 0) (.rdfeat rd imm)
  | 0x1D => onlyIf (ra = 0) (.mfs rd imm)
  | 0x20 => some (.bz rd (BitVec.ofNat 22 (bits w 0 22)))
  | 0x21 => some (.bnz rd (BitVec.ofNat 22 (bits w 0 22)))
  | 0x22 => some (.call (BitVec.ofNat 26 (bits w 0 26)))
  | 0x23 => onlyIf (rd = 0 && rb = 0 && decide (fn = 0)) (.callr ra)
  | 0x24 => onlyIf (rd = 0 && rb = 0 && decide (fn = 0)) (.jr ra)
  | 0x25 => onlyIf (rd = 0 && ra = 0 && rb = 0 && decide (fn = 0)) .ret
  | 0x28 => onlyIf (rd = 0 && ra = 0) (.svc imm)
  | 0x29 => onlyIf (rd = 0 && ra = 0 && decide (i18 = 0)) .yield
  | 0x2A => onlyIf (rd = 0 && ra = 0) (.break imm)
  | _ => decodeCop op (bits w 8 6) (bits w 0 8) rd ra rb

/-! ### Encoding -/

/-- The word of an instruction of the applet core; none for every other row of the table. -/
def encodeXk (i : Instr) : Option Word :=
  match i with
  | .add rd ra rb => some (fmtR 0x00 rd ra rb 0x00) | .sub rd ra rb => some (fmtR 0x00 rd ra rb 0x01)
  | .and_ rd ra rb => some (fmtR 0x00 rd ra rb 0x02) | .or_ rd ra rb => some (fmtR 0x00 rd ra rb 0x03)
  | .xor_ rd ra rb => some (fmtR 0x00 rd ra rb 0x04) | .shl rd ra rb => some (fmtR 0x00 rd ra rb 0x05)
  | .shr rd ra rb => some (fmtR 0x00 rd ra rb 0x06) | .sar rd ra rb => some (fmtR 0x00 rd ra rb 0x07)
  | .mul rd ra rb => some (fmtR 0x00 rd ra rb 0x08) | .mulh rd ra rb => some (fmtR 0x00 rd ra rb 0x09)
  | .mulhu rd ra rb => some (fmtR 0x00 rd ra rb 0x0A) | .div rd ra rb => some (fmtR 0x00 rd ra rb 0x0B)
  | .divu rd ra rb => some (fmtR 0x00 rd ra rb 0x0C) | .rem rd ra rb => some (fmtR 0x00 rd ra rb 0x0D)
  | .remu rd ra rb => some (fmtR 0x00 rd ra rb 0x0E) | .min_ rd ra rb => some (fmtR 0x00 rd ra rb 0x0F)
  | .max_ rd ra rb => some (fmtR 0x00 rd ra rb 0x10) | .minu rd ra rb => some (fmtR 0x00 rd ra rb 0x11)
  | .maxu rd ra rb => some (fmtR 0x00 rd ra rb 0x12)
  | .seq rd ra rb => some (fmtR 0x01 rd ra rb 0x0) | .sne rd ra rb => some (fmtR 0x01 rd ra rb 0x1)
  | .slt rd ra rb => some (fmtR 0x01 rd ra rb 0x2) | .sltu rd ra rb => some (fmtR 0x01 rd ra rb 0x3)
  | .sle rd ra rb => some (fmtR 0x01 rd ra rb 0x4) | .sleu rd ra rb => some (fmtR 0x01 rd ra rb 0x5)
  | .addi rd ra imm => some (fmtI 0x02 rd ra imm.toNat) | .andi rd ra imm => some (fmtI 0x03 rd ra imm.toNat)
  | .ori rd ra imm => some (fmtI 0x04 rd ra imm.toNat) | .xori rd ra imm => some (fmtI 0x05 rd ra imm.toNat)
  | .shli rd ra sh => some (fmtI 0x06 rd ra sh.toNat) | .shri rd ra sh => some (fmtI 0x07 rd ra sh.toNat)
  | .sari rd ra sh => some (fmtI 0x08 rd ra sh.toNat) | .seqi rd ra imm => some (fmtI 0x09 rd ra imm.toNat)
  | .slti rd ra imm => some (fmtI 0x0A rd ra imm.toNat) | .sltui rd ra imm => some (fmtI 0x0B rd ra imm.toNat)
  | .lui rd imm => some (fmtU 0x0C rd imm.toNat)
  | .ldw rd ra k imm => some (fmtM 0x10 rd ra k imm.toNat) | .ldh rd ra k imm => some (fmtM 0x11 rd ra k imm.toNat)
  | .ldhu rd ra k imm => some (fmtM 0x12 rd ra k imm.toNat) | .ldb rd ra k imm => some (fmtM 0x13 rd ra k imm.toNat)
  | .ldbu rd ra k imm => some (fmtM 0x14 rd ra k imm.toNat) | .stw rd ra k imm => some (fmtM 0x15 rd ra k imm.toNat)
  | .sth rd ra k imm => some (fmtM 0x16 rd ra k imm.toNat) | .stb rd ra k imm => some (fmtM 0x17 rd ra k imm.toNat)
  | .push rd => some (fmtI 0x18 rd 0 0) | .pop rd => some (fmtI 0x19 rd 0 0)
  | .dspadj imm => some (fmtI 0x1A 0 0 (imm.toNat * 4))
  | .dspget rd => some (fmtR 0x1B rd 0 0 0) | .dspset ra => some (fmtR 0x1B 0 ra 0 1)
  | .rdfeat rd imm => some (fmtI 0x1C rd 0 imm.toNat) | .mfs rd imm => some (fmtI 0x1D rd 0 imm.toNat)
  | .bz rt disp => some (fmtB 0x20 rt disp.toNat) | .bnz rt disp => some (fmtB 0x21 rt disp.toNat)
  | .call disp => some (fmtJ 0x22 disp.toNat) | .callr ra => some (fmtR 0x23 0 ra 0 0)
  | .jr ra => some (fmtR 0x24 0 ra 0 0) | .ret => some (fmtR 0x25 0 0 0 0)
  | .svc n => some (fmtI 0x28 0 0 n.toNat) | .yield => some (fmtI 0x29 0 0 0) | .break imm => some (fmtI 0x2A 0 0 imm.toNat)
  | .qmul rd ra rb f => some (fmtC 0x3C rd ra rb 0 f.toNat) | .qdiv rd ra rb f => some (fmtC 0x3C rd ra rb 1 f.toNat)
  | .qadd rd ra rb => some (fmtC 0x3C rd ra rb 2 0) | .qsub rd ra rb => some (fmtC 0x3C rd ra rb 3 0)
  | .sat rd ra n => some (fmtC 0x3C rd ra 0 4 n.val) | .satu rd ra n => some (fmtC 0x3C rd ra 0 5 n.val)
  | .qabs rd ra => some (fmtC 0x3C rd ra 0 6 0) | .isqrt rd ra => some (fmtC 0x3C rd ra 0 7 0)
  | .aclr => some (fmtC 0x3D 0 0 0 0 0) | .mac ra rb => some (fmtC 0x3D 0 ra rb 1 0)
  | .msu ra rb => some (fmtC 0x3D 0 ra rb 2 0) | .ard rd f => some (fmtC 0x3D rd 0 0 3 f.toNat)
  | .ardl rd => some (fmtC 0x3D rd 0 0 4 0) | .ardh rd => some (fmtC 0x3D rd 0 0 5 0)
  | .awr ra rb => some (fmtC 0x3D 0 ra rb 6 0)
  | .crci ra => some (fmtC 0x3E 0 ra 0 0 0) | .crcw ra => some (fmtC 0x3E 0 ra 0 1 0)
  | .crcb ra => some (fmtC 0x3E 0 ra 0 2 0) | .crcr rd => some (fmtC 0x3E rd 0 0 3 0)
  | .akey ra i => some (fmtC 0x3F 0 ra 0 0 i.val) | .ain ra i => some (fmtC 0x3F 0 ra 0 1 i.val)
  | .aenc => some (fmtC 0x3F 0 0 0 2 0) | .aout rd i => some (fmtC 0x3F rd 0 0 3 i.val)
  | _ => none

end Sys2Proof
end

