-- ==== Sys2Proof/Config.lean ====
section
/-! DEFINITION. What one part fixes and the spec leaves to the part: free values. Each is an
opaque constant, so no proof can see a value of it. -/

namespace Sys2Proof.Config

/-- A fresh word each time it is asked, indexed by the counter of the state. -/
opaque freeWord : Nat → Word
/-- Contents of the mask ROM, byte by address (R13). -/
opaque romByte : Nat → Byte
/-- Contents of the flash that no command reads back as a value, byte by address (R13, R17). -/
opaque flashByte : Nat → Byte
/-- End-of-line resistance of segment s of channel n at 25 °C in 0.01 mΩ, from the fuses
(LOADSW_CH_SEGBASE, reset value "Fuses", R219). -/
opaque segBase : Nat → Nat → Nat
/-- TB0 in ns of one start of a chop period of the lower valve of bank b at CHOP c kHz (R229): the spec gives
the periods no origin. -/
opaque chopOrigin : Nat → Nat → BitVec 32

end Sys2Proof.Config
end

