-- ==== Sys2Proof/Machine/StApp.lean ====
section
/-! DEFINITION. The parts of the state that the applet core, the applet slots, the coprocessor
and the memories hold: plain data, each field with the rule that names it. -/

namespace Sys2Proof.Machine

/-- A segment descriptor (R394). -/
structure SegDesc where
  base : Nat
  limit : Nat
  r : Bool
  w : Bool
  x : Bool
  io : Bool
  deriving DecidableEq, Repr, Inhabited

/-- A bank of the coprocessor (R409, R411). -/
structure CopBank where
  acc : BitVec 64
  crc : Word
  key : Vector Word 4
  inp : Vector Word 4
  out : Vector Word 4
  /-- SYS cycle count of the run, or TB0 in units of 5 ns, at which an encryption ends. -/
  busyUntil : Nat
  /-- An encryption is in progress in the window bank (R411). -/
  busy : Bool
  deriving DecidableEq, Repr, Inhabited

/-- A trap record (R408). -/
structure TrapRec where
  w0 : Word
  w1 : Word
  w2 : Word
  w3 : Word
  deriving DecidableEq, Repr, Inhabited

/-- How the present run of the applet core stands (R403). -/
inductive RunEnd where
  | idle | running | yielded | returned | trapped | overrun | cut
  deriving DecidableEq, Repr, Inhabited

/-- The applet core (R392). -/
structure Core where
  g : Vector Word 16
  pc : Word
  dsp : Word
  /-- Return stack in the core, newest first (R402). -/
  rs : List Word
  /-- Spilled entries and the spill pointer (R402). -/
  spilled : Nat
  seg : Vector SegDesc 8
  cop : CopBank
  /-- CYCLES of R406. -/
  cycles : Nat
  /-- Running slot; its budget. -/
  slot : Nat
  budget : Nat
  run : RunEnd
  /-- Requests issued in this run (R425). -/
  issued : Nat
  deriving DecidableEq, Repr, Inhabited

/-- Slot states (R418). -/
inductive AppSt where
  | empty | loading | writing | ready | started
  deriving DecidableEq, Repr, Inhabited

/-- The header of an image (R414). -/
structure AppHead where
  codeSize : Nat
  entry : Nat
  dataSize : Nat
  spillSize : Nat
  segs : Vector SegDesc 4
  caps : Nat
  nodes : List Nat
  deriving DecidableEq, Repr, Inhabited

/-- A staged start (R419). -/
structure AppStart where
  ovrStop : Nat
  budget : Nat
  gen : Nat
  deriving DecidableEq, Repr, Inhabited

/-- The outcome of a request, for RESULT (R424, R425). -/
structure AppResult where
  status : Nat
  acted : Nat
  lost : Nat
  op : Nat
  deriving DecidableEq, Repr, Inhabited

/-- One applet slot (R412-R426). -/
structure AppSlot where
  st : AppSt
  /-- Stored image: header and code words (R412). -/
  store : Option (AppHead × List Word)
  gen : Nat
  /-- Header of the load in progress (R413). -/
  load : Option AppHead
  /-- Start in the live table, and the start staged in an open vat (R419). -/
  live : Option AppStart
  staged : Option AppStart
  /-- Precedence grants: standing, and staged in an open vat (R423). -/
  grants : List Nat
  stagedGrants : List Nat
  stopCause : Nat
  overRun : Nat
  lastCycles : Nat
  maxCycles : Nat
  overruns : Nat
  cuts : Nat
  lostCnt : Nat
  busyCnt : Nat
  trap : TrapRec
  /-- Outcomes of the requests of the previous run (R425). -/
  results : List (Nat × AppResult)
  /-- What the slot may do in its next run: its private area has been zeroed (R419). -/
  fresh : Bool
  deriving DecidableEq, Repr, Inhabited

/-- One ledger entry (R44). -/
structure LedgerEntry where
  w0 : Word
  w1 : Word
  deriving DecidableEq, Repr, Inhabited

/-- MEMINT and the memories (20). -/
structure Mem where
  /-- SRAM bytes that differ from 0, by address (R12, R460). -/
  bytes : List (Nat × Byte)
  /-- Poisoned words by address (R453). -/
  poison : List Nat
  /-- Check-bit errors injected into words: address and mask (R463). -/
  inj : List (Nat × Nat)
  /-- Mask armed by MEMINT_INJECT (R463). -/
  armed : Option Nat
  scrubAddr : Nat
  passes : Nat
  debt : Nat
  skipped : Nat
  lagSeen : Bool
  /-- TB0 from which the scrubber's present interval runs (R456, R457). -/
  scrubAt : Nat
  romCe : Nat
  flashCe : Nat
  sramCe : Nat
  rsCorrect : Nat
  ue : Nat
  rsFail : Nat
  refresh : Nat
  rows : Nat
  last : Nat
  test : Nat
  rowsFixed : Nat
  /-- Corrected words of the present scrub pass: rows b × 256 + r, and pages p (R455, R459). -/
  rowCe : List (Nat × Nat)
  pageCe : List (Nat × Nat)
  /-- Rows and pages due, with their ledger cause (R455, R459). -/
  rowDue : List (Nat × Nat)
  pageDue : List (Nat × Nat)
  /-- Rows and pages for which SPARE_EXHAUST has been counted. -/
  exhaustSeen : List (Nat × Nat)
  /-- Spare rows used per bank, in the order taken; unusable spares. -/
  rowSpares : Vector (List (Nat × Nat)) 6
  badSpares : Vector (List Nat) 6
  /-- Flash pages on spares, in the order taken. -/
  pageSpares : List (Nat × Nat)
  /-- Page written during the scrubber's walk of it (R458). -/
  walkDirty : Bool
  deriving DecidableEq, Repr, Inhabited

/-- A ledger copy in flash (R41). -/
structure LedgerCopy where
  /-- Number of the rewrite that made it: the greater is the newer. -/
  gen : Nat
  /-- Its last rewrite was completed, so its CRC-32 matches unless the flash has failed. -/
  good : Bool
  entries : List LedgerEntry
  powerCycles : Nat
  deriving DecidableEq, Repr, Inhabited

/-- Spares as the FEATURE window shows them since the latest racking (R42, R44). -/
structure SpareWin where
  /-- Channels whose spare segment is in service, by bit. -/
  segs : Nat
  can : Word
  sram : Word
  flash : Word
  exhausted : Bool
  deriving DecidableEq, Repr, Inhabited

/-- How a bus access ends: it is served, it ends with a bus error, or it meets an absent resource
(R15, R21, R37). -/
inductive BusRes where
  | ok | error | absent
  deriving DecidableEq, Repr, Inhabited

/-- Variant, feature window and ledger (02). -/
structure Feat where
  /-- Variant code 1-12 of R40. -/
  variant : Nat
  ledgerValid : Bool
  powerCycles : Nat
  ledger : List LedgerEntry
  /-- Replacements waiting for the next racking: ledger words (R42). -/
  waiting : List LedgerEntry
  /-- The flash copies are being rewritten (R42). -/
  rewriting : Bool
  /-- The two copies of the ledger in flash (R41). -/
  copyA : LedgerCopy
  copyB : LedgerCopy
  /-- Spares as the window shows them (R42). -/
  win : SpareWin
  deriving DecidableEq, Repr, Inhabited

/-- Per-master latches of 64-bit values and edge records (R109, R281). -/
structure Latches where
  /-- Key: value number × 8 + master ID; the latched high word. -/
  hi : List (Nat × Nat)
  deriving DecidableEq, Repr, Inhabited

end Sys2Proof.Machine
end

