-- ==== Sys2Proof/Machine/StCore.lean ====
section
/-! DEFINITION. The parts of the state that SYSCTL, FRAME, HOSTLINK, the command engine, the
vat and the fault collector hold: plain data, each field with the rule that names it. -/

namespace Sys2Proof.Machine

/-- Press tick, clocks and the frame (05_clocks, R94-R116; TB0 of R330). Times are in ns of TB0. -/
structure Clk where
  /-- TB0 at the latest press tick (R111). -/
  tickNs : Nat
  /-- PER cycles (10 ns) since the latest press tick, FRAME_PHASE (R116). -/
  phase : Nat
  /-- FRAME_TICK_COUNT (R116). -/
  tickCount : Nat
  /-- TB0 of the first press tick of this start-up: the PWM epoch and the sampling grids (R180, R190, R249). -/
  epoch : Nat
  /-- FRAME_TICK_CFG.TICK_SEL in service (R110). -/
  tickSel : Nat
  /-- TICK_SEL of the frames after the next tick, where a bottling changed it (R110). -/
  nextSel : Nat
  /-- SYSCTL_CLK_STAT.XCLK_SEL (R95). -/
  xclkSel : Nat
  /-- SYSCTL_CLK_STAT.SRC (R116): 0 RC, 1 PLL from XCLK, 2 PLL from RC. -/
  src : Nat
  pllLock : Bool
  xclkOk : Bool
  /-- Divider of the PLL-derived domains over the working one, as a power of two 0..3 (R100). -/
  rampExp : Nat
  /-- Direction of the ramp in progress: 0 none, 1 stepping down, 2 stepping up (R100). -/
  rampDir : Nat
  /-- The fail-over state of R99. -/
  failOver : Bool
  /-- Press ticks delayed by the fail-over window still to be counted (R115). -/
  slipDue : Bool
  lastCount : Nat
  failWin : Nat
  parkHz : Nat
  rackTime : Nat
  rackMax : Nat
  overrun : Nat
  slip : Nat
  /-- Blocks whose gate a block reset closed, with the TB0 of the reset (R103). -/
  gated : List (Nat × Nat)
  /-- Gates that waited for a busy port, with the TB0 at which they closed (R104). -/
  gateWait : List (Nat × Nat)
  /-- Fail-over delay that press ticks have had, in PER cycles (R115). -/
  slipSum : Nat
  /-- The latest monitor window failed (R97). -/
  badWin : Bool
  /-- Blocks waiting for the reload at the next racking (R69). -/
  reload : List Nat
  /-- Place of the latest step 1 in the event order (R115, R486). -/
  snapSeq : Nat
  /-- Step 6 of this frame has been made (R112). -/
  sampled : Bool
  /-- A LOADSW block reset overlapped step 6 of this frame (R191). -/
  loadRst : Bool
  deriving DecidableEq, Repr, Inhabited

/-- Supply monitors (R61, R62, R65, R54). -/
structure Supply where
  vbatMv : Nat
  /-- Low-supply comparator (R61). -/
  low : Bool
  /-- Overvoltage comparator (R61). -/
  ov : Bool
  /-- A hold-off has ended and its outputs return at the next racking (R62). -/
  relDue : Bool
  /-- SYSCTL_SUPPLY_STAT.LOW_SEEN and OV_SEEN (R93). -/
  lowSeen : Bool
  ovSeen : Bool
  /-- TB0 at which LOW_SEEN and OV_SEEN were last set (R7). -/
  lowAt : Option Nat
  ovAt : Option Nat
  /-- Low supply, or overvoltage, has ended in this frame at or after the start of its diagnostic
  window (R204, R254). -/
  lowWin : Bool
  ovWin : Bool
  vioOk : Bool
  /-- TB0 of the tick since which each quadrant has been more than 1.0 V low (R54). -/
  skewFrom : Vector (Option Nat) 4
  /-- Quadrants whose present skew has been counted (R54). -/
  skewDone : Vector Bool 4
  deriving DecidableEq, Repr, Inhabited

/-- Where the device stands in R82. -/
inductive Phase where
  | off | startup | run | park | cellar
  deriving DecidableEq, Repr, Inhabited

/-- A Park or Cellar entry in progress (R83-R86). -/
structure Entry where
  cellar : Bool
  /-- 1 ask, 2 drain, 3 hand-over (SYSCTL_PWR_STAT.STEP). -/
  step : Nat
  /-- TB0 at which the step began. -/
  since : Nat
  /-- The command that started it: sequence number and outstanding number. -/
  ticket : Nat
  /-- Blocks that have granted, by window index (R84). -/
  granted : List Nat
  /-- The OK reply has been read and HCSN is high (R85). -/
  drained : Bool
  /-- Reply number of the OK reply (R85). -/
  okReply : Nat
  /-- Channels that keepers have taken at hand-over (R85). -/
  took : List Nat
  deriving DecidableEq, Repr, Inhabited

/-- Power states, reset, lease, LIMPN and wake (04_supply, R66-R93). -/
structure Pwr where
  phase : Phase
  /-- The running start is a power-on start (R70) and not a warm one (R71). -/
  powerOn : Bool
  /-- Boot ROM has run in this start (R67). -/
  booted : Bool
  /-- RSTN pin level. -/
  rstnLow : Bool
  /-- R32. -/
  fuseFailed : Bool
  patchApplied : Nat
  patchRejected : Nat
  patchLevel : Nat
  /-- SYSCTL_RST_CAUSE bits 6:0. -/
  rstCause : Nat
  /-- TB0 of the latest block reset (R7, R93). -/
  blkAt : Option Nat
  /-- End of the running hold lease in TB0 (R74). -/
  leaseEnd : Option Nat
  /-- SYSCTL_HOLD_STAT.STATE (R77). -/
  holdState : Nat
  /-- LIMPN recognised low (R79). -/
  limpActive : Bool
  /-- LIMPN has been recognised high and the command rung returns at the next racking (R80). -/
  limpRel : Bool
  /-- LIMPN pin is low. -/
  limpnLow : Bool
  /-- The entry in progress (R83). -/
  entry : Option Entry
  refuser : Nat
  abandon : Nat
  woke : Bool
  wakeRec : Word
  wakeTime : Nat
  /-- Park cycles since commit (R263). -/
  parkN : Nat
  /-- Cellar wake configuration latched at commit: WAKE_CFG and CELLAR_CFG (R93). -/
  cellarWake : Word
  cellarCfg : Word
  /-- An entry abandoned after its ask step: HRDYN falls at the next press tick (R86). -/
  resumeDue : Bool
  /-- Channels that keepers hand back to LOADSW at the next racking (R86, R88). -/
  handBack : List Nat
  /-- A Park exit has run and the first press tick after it is due (R88). -/
  woken : Bool
  /-- The non-maskable trap is waiting and its recovery work is due (R433, R434). -/
  nmi : Bool
  /-- Press ticks since the latest racking serviced the watchdog (R68). -/
  wdgMissed : Nat
  deriving DecidableEq, Repr, Inhabited

/-- A reply in the queue or held (R127). Words and CRC are formed when it is shifted out. -/
structure Reply where
  /-- Number in order of falling due. -/
  num : Nat
  seq : Nat
  op : Nat
  node : Nat
  status : Nat
  flags : Nat
  payload : List Word
  /-- Place in the event order at which the content was taken (R486). -/
  taken : Nat
  /-- Command latches of inputs that the reply reports (R255). -/
  clrIn : Nat
  /-- Command latches of field channels that the reply reports (R280). -/
  clrField : Nat
  /-- FAULT_PEND bits that the reply reports (R442). -/
  clrPend : Nat
  deriving DecidableEq, Repr, Inhabited

/-- HOSTLINK (06_host_link). -/
structure Link where
  /-- No packet has advanced the sequence since the start (R121, R124). -/
  fresh : Bool
  expect : Nat
  lastSeq : Nat
  mode3 : Bool
  /-- HCSN is low, as last seen (R116, R119). -/
  hcsnLow : Bool
  /-- Words shifted out on HMISO in the latest transaction (R120). -/
  miso : List Word
  replies : List Reply
  held : List Reply
  errCrc : Nat
  errSeq : Nat
  errFraming : Nat
  errOverrun : Nat
  errBusy : Nat
  reread : Nat
  idleAbort : Nat
  /-- 0 Disarmed, 1 Armed, 2 Lost (R135). -/
  lossState : Nat
  lost : Bool
  /-- TB0 at which LOST was last set (R7). -/
  lostAt : Option Nat
  lossCause : Nat
  lossCount : Nat
  /-- TB0 of the latest valid traffic, if any since the start (R134). -/
  silentFrom : Nat
  lastTb0 : Nat
  /-- Run of consecutive error transactions (R135). -/
  errRun : Nat
  /-- VIO_OK has been cleared since the latest step 1 (R135). -/
  vioLost : Bool
  /-- Number of the next reply. -/
  nextNum : Nat
  deriving DecidableEq, Repr, Inhabited

/-- A command in a queue or in the deferral store. -/
structure QCmd where
  op : Nat
  cmd : HostCmd
  charge : Nat
  /-- A QUEUED acknowledgement in place of execution (R143). -/
  ack : Bool
  /-- An applet request and the slot that made it; none for the host (R157). -/
  slot : Option Nat
  /-- Request number of an applet request (R425). -/
  req : Nat
  deriving DecidableEq, Repr, Inhabited

/-- A deferred command and the rackings still to go (R143). -/
structure Deferred where
  cmd : QCmd
  left : Nat
  deriving DecidableEq, Repr, Inhabited

/-- What a command that is answered at a later racking waits for (R144). -/
inductive WaitFor where
  | entry | vatCheck | vatStore (slot : Nat) | vatBottle
  | watch (ref : Nat) (timeout : Nat) (since : Nat) (reach : Nat)
  | challenge | enrol (slot : Nat) | revoke
  | appletStore (slot : Nat) (unload : Bool)
  | faultTest
  deriving DecidableEq, Repr, Inhabited

/-- A command answered at a later racking (R144), with its answer once it is known. -/
structure Outst where
  ticket : Nat
  op : Nat
  cmd : HostCmd
  tick : Nat
  wait : WaitFor
  /-- Answer that is posted at the next racking: status and payload after word 2. -/
  answer : Option (Nat × List Word)
  deriving DecidableEq, Repr, Inhabited

/-- One set-point written in the racking, for SUPERSEDED and the contest of R158. -/
structure RackSet where
  node : Nat
  /-- Set-point: 0 MODE, 1 DUTY, 2 FREQ, 3 PHASE, 4 latch clearing (R174). -/
  kind : Nat
  byHost : Bool
  reply : Nat
  /-- A pending turn-on was stored by this command (R188, R239). -/
  pend : Bool
  deriving DecidableEq, Repr, Inhabited

/-- The command engine: queues, deferral store and what is outstanding (R25, R143, R144). -/
structure Eng where
  /-- Queue of the next racking. -/
  qNext : List QCmd
  /-- Queue of the racking after the next (R24, R126). -/
  qAfter : List QCmd
  /-- Applet requests of the present racking that are still to execute (R27, R420). -/
  rack : List QCmd
  /-- Host commands of the present racking's queue (R27, R83). -/
  rackHost : List QCmd
  /-- Commands and unit actions that the present racking has executed (R113). -/
  rackCmds : Nat
  rackActs : Nat
  deferred : List Deferred
  outst : List Outst
  nextTicket : Nat
  rackSets : List RackSet
  /-- Units that a host command has addressed in this racking (R158). -/
  hostNodes : List Nat
  cancelled : Nat
  cntOpcode : Nat
  cntNode : Nat
  cntAbsent : Nat
  cntParam : Nat
  cntNotPermitted : Nat
  cntThermal : Nat
  cntVat : Nat
  cntDeferred : Nat
  deriving DecidableEq, Repr, Inhabited

/-- A configuration image: staged registers that differ from their Reset values, and casks (R163). -/
structure Image where
  regs : List (Nat × Word)
  /-- Cask ID and its direct members in definition order, IDs ascending (R150). -/
  casks : List (Nat × List Nat)
  /-- In a stored image only: the staged starts, as slot, OVR_STOP, BUDGET and GEN (R419). -/
  starts : List (Nat × Nat × Nat × Nat)
  /-- In a stored image only: the staged precedence grants, as slot and node (R423). -/
  grants : List (Nat × Nat)
  deriving DecidableEq, Repr, Inhabited

/-- Vat states (R161). -/
inductive VatState where
  | closed | open | checking | checked | bottling
  deriving DecidableEq, Repr, Inhabited

/-- A failure of a check (R164). -/
structure VatFail where
  reason : Nat
  where_ : Nat
  detail : Nat
  deriving DecidableEq, Repr, Inhabited

/-- The vat and the stored images (R161-R169). -/
structure Vat where
  st : VatState
  img : Image
  /-- TB0 from which the lease runs (R167). -/
  leaseFrom : Nat
  lastEnd : Nat
  resReason : Nat
  resFails : Nat
  resWhere : Nat
  liveGen : Nat
  /-- Stored images of slots 0-3: CRC good, variant, contents; one being written has no good CRC (R168). -/
  stored : Vector (Option (Bool × Nat × Image)) 4
  /-- Slots being written and their images, oldest first (R168). -/
  writing : List (Nat × Image)
  deriving DecidableEq, Repr, Inhabited

/-- A capture record (R431). -/
structure Capture where
  w0 : Word
  w1 : Word
  w2 : Word
  w3 : Word
  deriving DecidableEq, Repr, Inhabited

/-- One fault source (R429-R431). -/
structure FaultSrc where
  count : Nat
  /-- TB0 at which the window opened; none while IDLE. -/
  openAt : Option Nat
  total : Nat
  severeCnt : Nat
  captured : Bool
  cap : Capture
  severe : Bool
  pend : Bool
  /-- Place in the event order of the latest setting of the notification (R486). -/
  pendSeq : Nat
  /-- TB0 of the latest severe transition (R7). -/
  setAt : Option Nat
  deriving DecidableEq, Repr, Inhabited

/-- Collector states (R437). -/
inductive CollState where
  | start | normal | test | recovery
  deriving DecidableEq, Repr, Inhabited

/-- An event with what its capture record needs (R427, R431). -/
structure FEvent where
  src : Nat
  info : Nat
  /-- Master ID, 7 none. -/
  master : Nat
  /-- 0 read, 1 write, 2 fetch, 3 none, 4 injected. -/
  access : Nat
  size : Nat
  addr : Nat
  data : Word
  deriving DecidableEq, Repr, Inhabited

/-- A FAULT_TEST in progress (R444). -/
structure FTest where
  src : Nat
  events : Nat
  ticket : Nat
  severe : Bool
  react : Nat
  raised : Bool
  aborted : Bool
  deriving DecidableEq, Repr, Inhabited

/-- The fault collector (19_faults). -/
structure Flt where
  src : Vector FaultSrc 96
  st : CollState
  safe : Bool
  fltnHold : Bool
  /-- Events of ends of peaks that a reaction, a command or a protection made at this instant and that are still
  to be counted (R230). -/
  owed : List FEvent
  scopeBlock : Bool
  rblock : Nat
  /-- Bit m: party of master m declared faulty (R440). -/
  declared : Nat
  cause : Nat
  recoveries : Nat
  /-- TB0 of entry or of the latest qualifying event (R437). -/
  quietFrom : Nat
  lastChip : Nat
  first : Capture
  firstSet : Bool
  /-- Events held until the first press tick (R485). -/
  held : List FEvent
  test : Option FTest
  /-- The outputs were in the safe state at step 6 of the latest sampled frame, and as published
  (R154). -/
  sampSafe : Bool
  pubSafe : Bool
  deriving DecidableEq, Repr, Inhabited

end Sys2Proof.Machine
end

