-- ==== Sys2Proof/Machine/StIo.lean ====
section
/-! DEFINITION. The parts of the state that LOADSW, THERM, VALVE, SWIN and FIELD hold: plain
data, each field with the rule that names it. -/

namespace Sys2Proof.Machine

/-- Drive modes (R173). -/
inductive DriveMode where
  | off | on | pwm | pin | pulse | ramp | wait
  deriving DecidableEq, Repr, Inhabited

/-- A pulse train (R183): times in 10 µs units. -/
structure Train where
  width : Nat
  gap : Nat
  count : Nat
  /-- Active level off, rest level on. -/
  pol : Bool
  deriving DecidableEq, Repr, Inhabited

/-- The set-points of a channel (R174) with what a mode needs to run. -/
structure SetPt where
  mode : DriveMode
  duty : Nat
  freq : Nat
  phase : Nat
  /-- Ramp time in 10 ms units (R176). -/
  ramp : Nat
  /-- Mode that WAIT leads to (R173). -/
  after : DriveMode
  /-- Stagger offset in 100 µs units (R176). -/
  offset : Nat
  train : Train
  deriving DecidableEq, Repr, Inhabited

/-- The internal generator: what runs until the grid boundary and what runs from it (R179-R181). -/
structure Gen where
  /-- Running grid: frequency, phase, duty; none where the output stood at a steady level. -/
  run : Option (Nat × Nat × Nat)
  level : Bool
  freq : Nat
  phase : Nat
  duty : Nat
  /-- PWM epoch count E at the output update. -/
  upd : Nat
  deriving DecidableEq, Repr, Inhabited

/-- Diagnostic values of a sampled frame (R190-R192). -/
structure LoadDiag where
  ioutOn : Nat
  ioutAvg : Nat
  vout : Int
  duty : Nat
  freq : Nat
  stat : Word
  pstat : Word
  cls : Nat
  held : Bool
  sampled : Bool
  stale : Bool
  offHigh : Bool
  phase : Nat
  deriving DecidableEq, Repr, Inhabited

/-- One power segment of a channel (R215-R219). DRIFT is kept in units of 1e-9. -/
structure Seg where
  drift : Int
  samples : Nat
  /-- 0 spare, 1 active, 2 retired for drift, 3 retired or failed open. -/
  state : Nat
  openRun : Nat
  shortRun : Nat
  /-- Shorted: LOADSW_CH_SEG.STATE reads 4 (R218). -/
  short_ : Bool
  deriving DecidableEq, Repr, Inhabited

/-- A keeper (R73-R78). -/
structure Keeper where
  held : Bool
  level : Bool
  /-- A latch-off or shutdown has turned the held channel off: off until it passes back (R78, R87). -/
  tripped : Bool
  deriving DecidableEq, Repr, Inhabited

/-- One instant of the sample grid in the diagnostic window: the gate on, a sample that counts for IOUT_ON, the
output held off by protection (R190, R204). -/
structure Smp where
  on : Bool
  count : Bool
  prot : Bool
  deriving DecidableEq, Repr, Inhabited

/-- One load channel (08, 09). -/
structure LoadCh where
  /-- Shadow set-points, the commanded state that LOADSW_CH_SET shows (R174). -/
  sh : SetPt
  /-- Set-points in service since the output update (R173). -/
  act : SetPt
  /-- A MODE set-point was written since the latest output update. -/
  modeNew : Bool
  /-- A DUTY, FREQ or PHASE set-point was written since the latest output update. -/
  genNew : Bool
  /-- Pending turn-on: set-points as if at an output update (R188). -/
  pend : Option SetPt
  gen : Gen
  /-- TB0 at which the mode in service began. -/
  modeAt : Nat
  /-- E at which the ramp's elapsed time is 0 (R177). -/
  rampAt : Int
  /-- TB0 at which DEMAG began (R187). -/
  demagAt : Option Nat
  /-- CLAMP_LONG has been counted for this DEMAG (R187). -/
  clampSeen : Bool
  demagTime : Nat
  demagMj : Nat
  /-- Clamp energy measured in the present frame, µJ (R206). -/
  clampUj : Nat
  /-- Clamp energy of frame k − 1, as step 2 took it, µJ (R206). -/
  clampPrev : Nat
  /-- TB0 at which the output was last looked at before a change, the gate there, and the latest on-edge. -/
  chgAt : Nat
  lastLev : Bool
  edgeAt : Nat
  /-- An adjustment of R179 in the present frame. -/
  clipAcc : Bool
  /-- Samples of the diagnostic window up to chgAt, newest first (R190). -/
  smp : List Smp
  /-- The commands drove the output on when the racking began (R187). -/
  driven : Bool
  /-- A latch has been cleared in this racking: the output returns at the output update (R199, R202). -/
  relHold : Bool
  clipped : Bool
  /-- The gate was on at some instant of the present frame (R206). -/
  onFrame : Bool
  /-- Set-points with which the output was last driven on (R206). -/
  drv : SetPt
  pendCancel : Nat
  clipFrames : Nat
  clampLong : Nat
  /-- Latest sampled frame as the registers show it, as step 6 formed it, and as published at step 1 (R115). -/
  diag : LoadDiag
  shot : LoadDiag
  pub : LoadDiag
  ocLatch : Bool
  locked : Bool
  thermLatch : Bool
  retryHeld : Bool
  admitHeld : Bool
  refused : Bool
  openLoad : Bool
  retireDue : Bool
  driftNoSpare : Bool
  segFail : Bool
  segShort : Bool
  spareIn : Bool
  retryLeft : Nat
  dueSeg : Nat
  /-- Cause of the retirement that is due: 1 drift, 4 open (R216). -/
  dueCause : Nat
  ocEvents : Nat
  thermEvents : Nat
  olEvents : Nat
  admitRefused : Nat
  /-- TB0 at which the retry falls due (R197). -/
  retryAt : Option Nat
  curDelay : Nat
  /-- TB0 of the latest latch-off (R196). -/
  lastLatch : Option Nat
  olRun : Nat
  segs : Vector Seg 10
  /-- LOADSW_CH_RMODEL in 0.1 mΩ and mW (R215). -/
  rModel : Nat
  pUnitMw : Nat
  keeper : Keeper
  /-- Held in its limp state by a loss action, with its level (R137). -/
  lossHeld : Bool
  lossLevel : Bool
  /-- Held by the safe state, with its level (R438). -/
  safeHeld : Bool
  safeLevel : Bool
  /-- Level that the limp pattern gives since LIMPN was recognised (R79). -/
  limpLevel : Bool
  /-- THERM_LATCH has cleared and the restart waits for a racking (R198). -/
  thermRel : Bool
  /-- The gate was on at some instant of the previous frame (R206). -/
  onPrev : Bool
  /-- The gate was on at some instant since the latest output update (R216). -/
  onSince : Bool
  deriving DecidableEq, Repr, Inhabited

/-- One PWMIN pin (R184, R185): what it carries from TB0 rise on, a steady level or a period with its high time in
ns, and what has been measured. -/
structure PwmPin where
  level : Bool
  rise : Nat
  per : Nat
  high : Nat
  freq : Nat
  duty : Nat
  lastRise : Option Nat
  overFF : Bool
  deriving DecidableEq, Repr, Inhabited

/-- One cluster of the thermal model (R205-R210). Temperatures in 1e-6 K. -/
structure Cluster where
  deltaS : Int
  theta : Int
  tNow : Int
  tPred : Int
  pEffMw : Nat
  failed : Bool
  failRun : Nat
  /-- TB0 from which T_now has been above CEILING, restarted at each count (R210). -/
  overFrom : Option Nat
  deriving DecidableEq, Repr, Inhabited

/-- THERM (09). -/
structure Therm where
  cl : Vector Cluster 16
  /-- Fast states Δf: LC0-LC47, VL0-VL7, VB0-VB3, then the boost converter. -/
  fast : Vector Int 61
  /-- P_u of the latest step 2 in µW, same order. -/
  pUnit : Vector Nat 61
  refuse0 : Word
  refuse1 : Word
  refuse2 : Word
  refCmd : Nat
  refRel : Nat
  deriving DecidableEq, Repr, Inhabited

/-- Valve states (R228). -/
inductive VState where
  | off | defer | peak | drop | hold | release
  deriving DecidableEq, Repr, Inhabited

/-- A valve command stored as pending or to act at the output update (R232, R239). -/
inductive VCmd where
  | fire (duration : Nat)
  | hold (duration override : Nat)
  | release
  deriving DecidableEq, Repr, Inhabited

/-- One valve (10). Times in ns of TB0. -/
structure Valve where
  st : VState
  /-- DEFER entered from HOLD: the valve still holds (R223). -/
  deferHolds : Bool
  /-- Commands of this racking, to act at the output update (R232). -/
  todo : List VCmd
  pend : Option VCmd
  /-- Start of the phase in progress, and of the latest peak. -/
  phaseAt : Nat
  peakAt : Nat
  /-- Origin and length (100 µs, 0 none) of DURATION. -/
  durAt : Nat
  duration : Nat
  /-- The next peak keeps the DURATION origin (R243). -/
  keepOrigin : Bool
  /-- Origin from which a VALVE_FIRE during this peak or its DROP counts (R232). -/
  origin : Nat
  /-- Override of the hold current in mA, 0 none (R231). -/
  ovr : Nat
  /-- TB0 at which the peak was requested, and its start bound (R235). -/
  reqAt : Nat
  bound : Nat
  /-- Highest current during the present peak in mA and time to I_PEAK (R230). -/
  peakMiss : Bool
  boostNr : Bool
  relSlowed : Bool
  decayLong : Bool
  ocLatch : Bool
  bankOc : Bool
  vtherm : Bool
  open_ : Bool
  refused : Bool
  imeas : Nat
  cls : Nat
  deferUs : Nat
  reachUs : Nat
  /-- Energies of the firing in progress, and of the latest one, 0.1 mJ (R240). -/
  firing : Bool
  accBoost : Nat
  accRec : Nat
  eBoost : Nat
  eRec : Nat
  dropUs : Nat
  relUs : Nat
  fires : Nat
  deferred : Nat
  pendCancel : Nat
  /-- VALVE_STAT, VALVE_TIMES, VALVE_ENERGY and VALVE_DECAY at the end of step 6, and as published. -/
  diag : List Word
  pub : List Word
  pubCls : Nat
  sampled : Bool
  pubSampled : Bool
  deriving DecidableEq, Repr, Inhabited

/-- One valve bank (R223, R241). -/
structure Bank where
  bankOc : Bool
  hsTherm : Bool
  ibank : Nat
  cls : Nat
  diag : List Word
  pub : List Word
  pubCls : Nat
  sampled : Bool
  pubSampled : Bool
  deriving DecidableEq, Repr, Inhabited

/-- Boost states (R226). -/
inductive BoostSt where
  | off | charge | ready | held | discharge | fault
  deriving DecidableEq, Repr, Inhabited

/-- VALVE shared (R225-R227, R234). -/
structure ValveBlk where
  v : Vector Valve 8
  b : Vector Bank 4
  boost : BoostSt
  /-- VBOOST in 10 mV and IIN in mA (R248). -/
  vboost : Nat
  iin : Nat
  /-- VBOOST in 10 mV as it is now (R225, R236), whether the converter switches, and TB0 at the start of its
  latest soft start (R225). -/
  vbNow : Nat
  switching : Bool
  softFrom : Nat
  chargeAt : Nat
  dump : Bool
  cntNotReady : Nat
  cntOv : Nat
  cntFail : Nat
  /-- Requested peaks in the order of request (R234). -/
  queue : List Nat
  /-- Grant or delay of a power-state entry (R233). -/
  entryHold : Bool
  deriving DecidableEq, Repr, Inhabited

/-- One switch input (11). -/
structure Port where
  /-- Latest raw sample, and equal samples in a row up to it (R250, R252). -/
  raw : Bool
  run : Nat
  /-- TB0 up to which the samples have been taken (R249, R251). -/
  swept : Nat
  /-- Latest conversions, newest first, at most 8: 10 mV and 10 µA (R257). -/
  conv : List (Nat × Nat)
  /-- Conversions in a row that R261 counts for WET_FAIL; whether 4 were reached, and whether one was above
  VBAT + 2 V, since the previous step 6. -/
  wetRun : Nat
  wetHit : Bool
  ovHit : Bool
  /-- Transitions to 1 and to 0 since the latest snapshot (R266). -/
  toOne : Bool
  toZero : Bool
  state : Bool
  valid : Bool
  wetFail : Bool
  overv : Bool
  cmdLatch : Bool
  /-- Place in the event order of the latest setting of the command latch (R486). -/
  cmdSeq : Nat
  regLatch : Bool
  /-- Latches of applet slots 0-7 (R424). -/
  appLatch : Nat
  vmean : Nat
  iwet : Nat
  cls : Nat
  sampled : Bool
  snapState : Bool
  snapValid : Bool
  snapCmd : Bool
  /-- Published sample: SWIN_IN_STAT and class (R262). -/
  diagStat : Word
  diagSense : Word
  pubStat : Word
  pubSense : Word
  pubCls : Nat
  pubSampled : Bool
  /-- Latest Park sample and the run differing from the reference (R264). -/
  parkState : Bool
  parkRun : Nat
  ref : Bool
  deriving DecidableEq, Repr, Inhabited

/-- Island states (R270). -/
inductive IslandSt where
  | off | powering | training | config | run | lost | pwrFail
  deriving DecidableEq, Repr, Inhabited

/-- Commanded state of a field output (R284). -/
inductive FDrive where
  | off | on
  /-- Active level, start in TB0, width in µs. -/
  | pulse (level : Bool) (at_ width : Nat)
  deriving DecidableEq, Repr, Inhabited

/-- One field channel (12). -/
structure Fio where
  /-- Commanded state in the shadow and in service (R112 step 4). -/
  sh : FDrive
  shNew : Bool
  drive : FDrive
  /-- The commanded state is still to reach the island, and CLR with it (R273, R284). -/
  cmdNew : Bool
  clrReq : Bool
  /-- On the island: the command it acts on, its gate, and TB0 of the latest gate edge (R271, R283). -/
  iDrive : FDrive
  iGate : Bool
  gateAt : Nat
  /-- On the island: the comparator's level and the TB0 since which it stands, the accepted level and whether
  there is one (R279, R280). -/
  lvl : Bool
  lvlFrom : Nat
  iIn : Bool
  iValid : Bool
  /-- On the island: in current limit since a TB0, OC_LATCH, the detector's latch, the readback flag (R282, R283). -/
  limFrom : Option Nat
  iOc : Bool
  iHot : Bool
  iRb : Bool
  iRbDir : Bool
  /-- Latest conversion, and sums and count of those of the diagnostic window (R271, R287). -/
  convI : Nat
  convV : Nat
  winI : Nat
  winV : Nat
  winN : Nat
  /-- A good uplink cycle since the previous step 6 showed LIMITING (R287). -/
  limSeen : Bool
  /-- The mirror (R274). -/
  gate : Bool
  inp : Bool
  valid : Bool
  limiting : Bool
  ocLatch : Bool
  ftherm : Bool
  /-- FTHERM has released and the output returns at the next racking (R282). -/
  relDue : Bool
  open_ : Bool
  olRun : Nat
  rbMis : Bool
  rbDir : Bool
  iout : Nat
  vpin : Nat
  cls : Nat
  sampled : Bool
  cmdLatch : Bool
  cmdSeq : Nat
  regLatch : Bool
  appLatch : Nat
  snapIn : Bool
  snapValid : Bool
  snapGate : Bool
  snapChg : Bool
  diagStat : Word
  diagMeas : Word
  pubStat : Word
  pubMeas : Word
  pubCls : Nat
  pubSampled : Bool
  /-- Mode in service (R278). -/
  mode : Nat
  deriving DecidableEq, Repr, Inhabited

/-- Edge record of FIO0-FIO3 (R281). -/
structure FEdge where
  t : Nat
  dir : Bool
  count : Nat
  deriving DecidableEq, Repr, Inhabited

/-- FIELD (12). -/
structure Field where
  st : IslandSt
  /-- TB0 at which the transfer started or the state began (R270). -/
  since : Nat
  locked : Bool
  /-- 0 OK, 1 WARN, 2 LOST, 3 OVER (R277). -/
  fv24State : Nat
  /-- LOST or OVER has ended and outputs return at the next racking (R277). -/
  relDue : Bool
  lossCause : Nat
  pwrRetries : Nat
  pwrFaults : Nat
  fv24 : Nat
  fv24Min : Option Nat
  crcDn : Nat
  crcUp : Nat
  losses : Nat
  relocks : Nat
  /-- Consecutive bad uplink cycles, and consecutive coupler disagreements (R272, R275). -/
  badRun : Nat
  cplRun : Nat
  /-- Consecutive bad downlink cycles seen by the island (R275). -/
  badDn : Nat
  /-- Good cycles in a row of each direction in the present start step; the configuration has been echoed; the
  start is a relock (R270, R275). -/
  goodUp : Nat
  goodDn : Nat
  configured : Bool
  relock : Bool
  /-- On the island: it is in service, and it has turned its outputs off for want of a downlink (R270, R275). -/
  serving : Bool
  dnOff : Bool
  /-- On the island: conversions in a row below 18.0 V, below 15.0 V and above 33.0 V, TB0 since which FV24 is back at
  18.5 V, 16.0 V and 32.0 V, and the three states (R277). -/
  lowRun : Nat
  lostRun : Nat
  overRun : Nat
  warnOk : Option Nat
  lostOk : Option Nat
  overOk : Option Nat
  iWarn : Bool
  iLost : Bool
  iOver : Bool
  ch : Vector Fio 16
  edge : Vector FEdge 4
  snapFv24 : Nat
  snapFv24State : Nat
  snapRun : Bool
  snapEdge : Vector Nat 4
  deriving DecidableEq, Repr, Inhabited

end Sys2Proof.Machine
end

