-- ==== Sys2Proof/Machine/StNet.lean ====
section
/-! DEFINITION. The parts of the state that CAN, LIN, T1S, TIME, NETMGR and ACCESS hold: plain
data, each field with the rule that names it. -/

namespace Sys2Proof.Machine

/-- One buffer of a receive object or one log entry: words 0-18 are formed from it (R298). -/
structure CanBuf where
  id : Nat
  ide : Bool
  lost : Bool
  new : Bool
  dlc : Nat
  fdf : Bool
  brs : Bool
  esi : Bool
  frameCnt : Nat
  sof : Nat
  /-- Data words, 16 of them for an object. -/
  data : List Word
  deriving DecidableEq, Repr, Inhabited

/-- One receive object that holds or has held a frame (R299-R302). -/
structure CanObj where
  cur : CanBuf
  inc : Option CanBuf
  /-- Lock owner and TB0 of the latest owner read of word 0 (R300, R301). -/
  lock : Option (Nat × Nat)
  frameCnt : Nat
  /-- Physical buffer in service (R302). -/
  phys : Nat
  fail : Bool
  /-- TB0 of the correctable errors of the last second (R302). -/
  eccCe : List Nat
  /-- Replacement due at the next racking with its ledger cause (R302). -/
  replaceDue : Option Nat
  deriving DecidableEq, Repr, Inhabited

/-- A frame in the TX queue (R305, R306). -/
structure CanTx where
  id : Nat
  ide : Bool
  len : Nat
  fdf : Bool
  brs : Bool
  tag : Nat
  single : Bool
  data : List Word
  /-- In the queue: false until the output update of its racking (R305), and TB0 of the entry. -/
  entered : Bool
  since : Nat
  /-- SOF stamp of the last attempt (R306). -/
  sof : Nat
  deriving DecidableEq, Repr, Inhabited

/-- Controller states (R295). -/
inductive CanSt where
  | disabled | selftest | integrating | active | passive | busOff | halted | failed
  deriving DecidableEq, Repr, Inhabited

/-- One CAN controller (13). -/
structure Can where
  st : CanSt
  lec : Nat
  txdTimeout : Bool
  trxSleep : Bool
  tec : Nat
  rec_ : Nat
  busoffCnt : Nat
  rxDiscard : Nat
  logOvf : Nat
  lockExpire : Nat
  remote : Nat
  evOvf : Nat
  /-- Objects by number; an unlisted object is as after reset (R301). -/
  obj : List (Nat × CanObj)
  log : List (Nat × CanBuf)
  txq : List CanTx
  events : List (Word × Word)
  /-- Spare objects left and the spare filter bank (R45, R296). -/
  sparesUsed : List Nat
  filtSpare : Bool
  /-- Bus-off recovery is running (R307). -/
  recovering : Bool
  deriving DecidableEq, Repr, Inhabited

/-- LIN channel states (R321). -/
inductive LinSt where
  | disabled | idle | running | sleep | fault | halted
  deriving DecidableEq, Repr, Inhabited

/-- A publish buffer (R317). -/
structure LinPub where
  w0 : Word
  w1 : Word
  valid : Bool
  oneShot : Bool
  deriving DecidableEq, Repr, Inhabited

/-- A receive buffer entry (R318). -/
structure LinRx where
  len : Nat
  err : Nat
  lost : Bool
  new : Bool
  t : Nat
  w0 : Word
  w1 : Word
  deriving DecidableEq, Repr, Inhabited

/-- A receive buffer with its incoming half and lock (R318). -/
structure LinBuf where
  cur : LinRx
  inc : Option LinRx
  lock : Option (Nat × Nat)
  deriving DecidableEq, Repr, Inhabited

/-- One LIN channel (13). -/
structure Lin where
  st : LinSt
  /-- State to return to from FAULT (R313). -/
  prev : LinSt
  table : Nat
  slot : Nat
  /-- Pending action and its table and slot (R316): 0 none, 1 end of slot, 2 end of table, 3 stop. -/
  switch : Nat
  swTable : Nat
  swSlot : Nat
  /-- TB0 of the start of the slot in progress, and whether its header has been sent. -/
  slotAt : Nat
  headerSent : Bool
  /-- Identifier of the header in progress and its publish data latched at the break (R317). -/
  frameId : Option Nat
  latched : LinPub
  /-- TB0 of the start of that frame's break (R314). -/
  beganAt : Nat
  pub : List (Nat × LinPub)
  /-- Publish data of this racking, by identifier, to act at the output update (R317). -/
  todo : List (Nat × LinPub)
  rx : List (Nat × LinBuf)
  noResp : Nat
  checksum : Nat
  bitErr : Nat
  syncParity : Nat
  /-- TB0 of entry to FAULT or of the wake pulse (R313, R359). -/
  since : Nat
  /-- Waking: IDLE 150 ms after the wake pulse (R359). -/
  waking : Bool
  /-- The go-to-sleep frame is to be sent or has been sent (R359). -/
  goToSleep : Bool
  /-- TB0 of the latest bus activity (R359). -/
  activeAt : Nat
  deriving DecidableEq, Repr, Inhabited

/-- T1S port states (R324). -/
inductive T1sSt where
  | disabled | starting | run | sleep | halted
  deriving DecidableEq, Repr, Inhabited

/-- A frame in the TX queue (R340). -/
structure T1sTx where
  frameId : Nat
  stamp : Bool
  /-- In the queue: false until the output update of its racking. -/
  entered : Bool
  bytes : List Byte
  deriving DecidableEq, Repr, Inhabited

/-- A frame in the receive ring (R328, R341). -/
structure T1sRx where
  len : Nat
  base : Nat
  tb0 : Nat
  tbi : Nat
  bytes : List Byte
  deriving DecidableEq, Repr, Inhabited

/-- One T1S port (14). -/
structure T1s where
  st : T1sSt
  plcaOk : Bool
  /-- TB0 of the latest BEACON (R325). -/
  beaconAt : Nat
  /-- TB0 of the end of the latest frame that the port sent, and the further frames sent in its opportunity (R325). -/
  sentAt : Nat
  burst : Nat
  txq : List T1sTx
  ring : List T1sRx
  tsq : List (Word × Word × Word)
  rxOvf : Nat
  fcsErr : Nat
  lenErr : Nat
  coll : Nat
  plcaLoss : Nat
  bcnDup : Nat
  txAbort : Nat
  tsqOvf : Nat
  deriving DecidableEq, Repr, Inhabited

/-- Sync supervision states (R337). -/
inductive SyncSt where
  | none_ | waiting | tracking | holdover
  deriving DecidableEq, Repr, Inhabited

/-- One of TB1-TB3 (R332, R337): its value at `at_` in ns of TB0, in units of 2^-40 ns. -/
structure TimeBase where
  at_ : Nat
  val : Int
  rate : Int
  /-- Earlier stretches, newest first: start, value at the start, rate. A stamp is captured up to one
  frame before its frame ends (R334). -/
  hist : List (Nat × Int × Int)
  sync : SyncSt
  /-- TB0 of the latest Sync or of the start of supervision (R337). -/
  ageFrom : Nat
  losses : Nat
  deriving DecidableEq, Repr, Inhabited

/-- An adjustment that applies at the output update (R345). -/
structure TimeAdj where
  base : Nat
  op : Nat
  rate : Int
  offset : Int
  deriving DecidableEq, Repr, Inhabited

/-- TIME (14). -/
structure Tim where
  tb : Vector TimeBase 3
  /-- TB0-TB3 at the latest press tick (R348). -/
  tick : Vector Nat 4
  tb0Rc : Bool
  rcSeen : Bool
  /-- TB0 at which RC_SEEN was last set (R7). -/
  rcAt : Option Nat
  bridged : Bool
  bridgeUs : Nat
  deriving DecidableEq, Repr, Inhabited

/-- NETMGR states (R354). -/
inductive NmSt where
  | off | start | awake | consent | waitSleep | busSleep | halted
  deriving DecidableEq, Repr, Inhabited


/-- A ring frame of the device, with SI and SA as they were fixed (R351). -/
structure RingTx where
  ty : RingType
  dest : Nat
  si : Bool
  sa : Bool
  deriving DecidableEq, Repr, Inhabited

/-- NETMGR (15). -/
structure Nm where
  st : NmSt
  req : Bool
  committed : Bool
  closer : Bool
  fsActive : Bool
  /-- NETMGR drives WAKEL, and TB0 of the end of the latest pulse (R358). -/
  wakelOn : Bool
  wakelUntil : Nat
  present : Nat
  hadOthers : Bool
  si : Nat
  /-- TB0 at which the device's RING is scheduled (R351). -/
  tokenDue : Option Nat
  /-- Node to which the token was passed and when (R351). -/
  passedTo : Option (Nat × Nat)
  /-- TB0 of the latest ring frame sent or token received (R351). -/
  lastToken : Nat
  /-- Ring frames to send, oldest first (R349). -/
  toSend : List RingTx
  /-- TB0 of entry to WAIT_SLEEP (R352). -/
  wbsFrom : Nat
  wakeRec : Word
  wakeTime : Nat
  tokenTmo : Nat
  skips : Nat
  absorbed : Nat
  wakes : Nat
  /-- TB0 of the latest restart of the fail-safe timer (R362). -/
  fsFrom : Nat
  fsCount : Nat
  /-- Commands that act at the output update: 0 none, 1 request, 2 stay awake, 3 force (R363). -/
  todo : List Nat
  /-- What R361 gives at the first racking: 0 nothing, 1 START with no pulse, 2 BUS_SLEEP,
  3 START cause 2 with a pulse, 4 START cause 3. -/
  resume : Nat
  deriving DecidableEq, Repr, Inhabited

/-- Slot states (R382). -/
inductive SlotSt where
  | empty | pending | active
  deriving DecidableEq, Repr, Inhabited

/-- One token slot (R382). -/
structure TokenSlot where
  st : SlotSt
  tokenId : Word
  kT : BitVec 128
  kI : BitVec 128
  last : Word
  battLow : Bool
  /-- TB0 of the enrolment (R382). -/
  pendFrom : Nat
  /-- Data bytes and end of the latest valid telegram (R372). -/
  latest : Option (List Byte × Nat)
  /-- Resynchronization candidate: COUNTER and TB0 (R373). -/
  cand : Option (Word × Nat)
  deriving DecidableEq, Repr, Inhabited

/-- A valid telegram whose LAST write is in progress (R371). -/
structure TelWrite where
  slot : Nat
  bytes : List Byte
  resync : Bool
  deriving DecidableEq, Repr, Inhabited

/-- A key store write in progress (R385, R386). -/
inductive KeyWrite where
  | enrol (slot : Nat) (tokenId last : Word) (kT kI : BitVec 128)
  | revoke (slot : Nat)
  deriving DecidableEq, Repr, Inhabited

/-- A challenge in progress (R380). -/
structure Challenge where
  coils : Nat
  since : Nat
  nonce : BitVec 64
  /-- Low supply or overvoltage has held the LF drivers off during the challenge (R61, R381). -/
  supply : Bool
  deriving DecidableEq, Repr, Inhabited

/-- ACCESS (16). -/
structure Acc where
  slots : Vector TokenSlot 8
  session : Option Nat
  /-- TB0 at which the session's timer expires (R376). -/
  sessionEnd : Nat
  sessionT : Nat
  lastEnd : Nat
  doorD : Nat
  /-- Throttle deadline in TB0 and the ends of recent invalid telegrams (R374). -/
  throttleEnd : Option Nat
  recent : List Nat
  thrEntries : Nat
  /-- The flash flags of R375 and R383: throttling or a lockout was active. -/
  thrFlag : Bool
  lockFlag : Bool
  cntValid : Nat
  cntInvalid : Nat
  cntCorrupt : Nat
  cntRepeat : Nat
  cntIgnored : Nat
  cntThrottled : Nat
  lfOk : Nat
  lfFail : Nat
  /-- The dealer code; only a hash is readable, and nothing reads it (R383). -/
  code : Option (BitVec 64)
  dealerEnd : Option Nat
  wrong : Nat
  lockEnd : Option Nat
  writes : List TelWrite
  /-- Key store writes, the one in progress first (R385, R386). -/
  keyWrites : List KeyWrite
  challenge : Option Challenge
  log : List (Word × Word × Word × Word × Word)
  nextEvent : Nat
  /-- UHFEN pin, and TB0 at which it turned on (R365). -/
  uhfen : Bool
  uhfAt : Nat
  /-- A dealer window that opens (its end) or closes (0) at the output update (R389). -/
  dealerTodo : Option Nat
  deriving DecidableEq, Repr, Inhabited

end Sys2Proof.Machine
end

