-- ==== Sys2Proof/Machine/State.lean ====
section
/-! DEFINITION. The whole state of the TZ4800 as plain data, the reasons a step can stop, and the
state right after power-on reset, with every field at the Reset value of its register table. -/

namespace Sys2Proof.Machine

/-- Reasons to stop with a fault. There is none: the spec gives every event and command an effect,
and a bus error is an effect (R15), so no meaning faults. -/
inductive Fault where
  deriving DecidableEq, Repr

/-- Reasons to refuse a command. -/
inductive Refusal where
  /-- Raised by an arm of `exec` whose meaning has not been written; the name is the row's
  mnemonic. Safe: the run stops. -/
  | notModelled (mnemonic : String)
  deriving DecidableEq, Repr

/-- The TZ4800. -/
structure State where
  /-- Commands and events that are waiting, first in, first out. -/
  pending : List Instr
  clk : Clk
  supply : Supply
  pwr : Pwr
  link : Link
  eng : Eng
  vat : Vat
  /-- The live image in SB1 (R163). -/
  live : Image
  /-- Staged registers as the blocks hold them now, where they differ from their Reset values. -/
  regs : List (Nat × Word)
  /-- Staged registers as they act: a write to some blocks acts only from the next output update,
  racking or leaving of DISABLED (R193, R267, R290, R320, R321, R347). -/
  svc : List (Nat × Word)
  load : Vector LoadCh 48
  pins : Vector PwmPin 8
  therm : Therm
  valve : ValveBlk
  port : Vector Port 64
  /-- What stands at the pins of SI0-SI63 (R250). -/
  contact : Vector Contact 64
  field : Field
  can : Vector Can 4
  /-- CAN_TICK_TSC (R304). -/
  tickTsc : Nat
  lin : Vector Lin 6
  t1s : Vector T1s 2
  tim : Tim
  /-- Adjustments that act at the output update (R345). -/
  adj : List TimeAdj
  nm : Nm
  acc : Acc
  /-- An ACC_SESSION_END cause that acts at the output update (R389). -/
  accEnd : Option Nat
  app : Vector AppSlot 8
  /-- Slots of this frame that have not run to their end in step 5 (R112). -/
  appTodo : List Nat
  core : Core
  /-- The coprocessor's window bank (R411). -/
  win : CopBank
  flt : Flt
  mem : Mem
  feat : Feat
  latches : Latches
  /-- FRAME_VAT_CFG and TIME_RATE are RW but not staged: FRAME_VAT_CFG (R169). -/
  vatCfg : Word
  /-- The value that the latest bus-read command returned. The model's own field. -/
  busOut : Word
  /-- How the latest bus command ended, as its master is told (R21). The model's own field. -/
  busEnd : BusRes
  /-- Place in the order of events, for R486. The model's own field. -/
  evSeq : Nat
  /-- How many free values have been taken. The model's own field. -/
  freeCtr : Nat
  deriving DecidableEq, Repr, Inhabited

/-- FREQ set-point at power-on (R193). -/
def setPtReset : SetPt := { (default : SetPt) with freq := 200, ramp := 0 }

/-- Segment s of channel n at power-on (LOADSW_CH_SEG, R219). -/
def segReset (n s : Nat) : Seg :=
  { drift := 0, samples := 0, openRun := 0, shortRun := 0, short_ := false,
    state := if s < (if n < 12 then 9 else 5) then 1 else 0 }

/-- Channel n at power-on (R193, R219). -/
def loadReset (n : Nat) : LoadCh :=
  { (default : LoadCh) with
    sh := setPtReset, act := setPtReset, drv := setPtReset
    gen := { (default : Gen) with freq := 200 }
    retryLeft := 3, dueSeg := 15
    diag := { (default : LoadDiag) with pstat := 0x000F3000 }
    pub := { (default : LoadDiag) with pstat := 0x000F3000 }
    rModel := if n < 12 then 160 else 650
    segs := ⟨⟨(List.range 10).map (segReset n)⟩, by simp⟩ }

/-- Valve at power-on: REACH_US 0xFFFF (R248). -/
def valveReset : Valve :=
  { (default : Valve) with
    reachUs := 0xFFFF
    diag := [0, 0xFFFF0000, 0, 0]
    pub := [0, 0xFFFF0000, 0, 0] }

/-- Field island at power-on (R290). -/
def fieldReset : Field := { (default : Field) with fv24State := 2, snapFv24State := 2 }

/-- The descriptor of S7 in every applet (R395). -/
def seg7 : SegDesc := { base := 0x40100000, limit := 0x1000, r := true, w := false, x := false, io := false }
/-- The applet core at rest: registers 0, S7 over the FEATURE window (R392, R395; log 10). -/
def coreReset : Core := { (default : Core) with seg := (Vector.replicate 8 default).set 7 seg7 }

/-- An empty slot (R412, R418). -/
def appReset : AppSlot := default

/-- The collector after power-on reset (R437, R445). -/
def fltReset : Flt := { (default : Flt) with safe := true, lastChip := 0xFF }

/-- HOSTLINK after power-on reset (R139). -/
def linkReset : Link := { (default : Link) with fresh := true }

/-- The memories after power-on reset (R12, R463). -/
def memReset : Mem := { (default : Mem) with test := 0xFF }

/-- The clocks after power-on reset (R116): RC direct, 1 ms press tick. -/
def clkReset : Clk := { (default : Clk) with tickSel := 3, nextSel := 3 }

/-- SYSCTL after power-on reset (R93): RST_CAUSE.POR set, the device not yet powered. -/
def pwrReset : Pwr := { (default : Pwr) with phase := .off, powerOn := true, rstCause := 1 }

/-- A ledger copy without entries, as Zelhar's final test leaves a part that needed no repair (log 1). -/
def ledgerBlank : LedgerCopy := { gen := 0, good := true, entries := [], powerCycles := 0 }
/-- The spare registers of the FEATURE window at power-on (R44). -/
def spareReset : SpareWin := { segs := 0, can := 0x8888, sram := 0x21084210, flash := 0x20, exhausted := false }

/-- The machine right after power-on reset: the supply has not yet risen through 4.3 V, every
register field holds its Reset value, no command waits. The variant is 0x01, TZ4848-AF, the
full-featured die (DESIGN CHOICE, log 1: the fuses of the part decide it). -/
def State.reset : State :=
  { (default : State) with
    clk := clkReset
    pwr := pwrReset
    link := linkReset
    load := ⟨⟨(List.range 48).map loadReset⟩, by simp⟩
    valve := { (default : ValveBlk) with v := Vector.replicate 8 valveReset }
    field := fieldReset
    flt := fltReset
    core := coreReset
    mem := memReset
    feat := { (default : Feat) with variant := 1, copyA := ledgerBlank, copyB := ledgerBlank, win := spareReset }
    vatCfg := 0x0A }

end Sys2Proof.Machine
end

