-- ==== Sys2Proof/Machine/Tables.lean ====
section
/-! DEFINITION. The spec's tables: feature words of the variants (R40), the press tick (R110), the
opcode table (R146), staged registers with their fields, Reset values and stated ranges (R163),
thermal clusters (R205), over-current and open-load thresholds (R194, R203), fault sources (R427). -/

namespace Sys2Proof.Machine

/-! ### Variants (R39, R40) -/

/-- FEAT0–FEAT6 of variant code v, 1–12 (R40). -/
def featRow (v : Nat) : List Word :=
  let mk (f1 f2 f3 f4 f5 f6 : Word) : List Word := [w32 (0x48000100 + v), f1, f2, f3, f4, f5, f6]
  let full := 0x00033F3F
  match v with
  | 1 => mk 0xC30 0x1FFF 0xFFFF0140 full 0x87 0x04000683
  | 2 => mk 0xC30 0x1FFF 0x00000040 full 0x87 0x04000683
  | 3 => mk 0xC30 0x1FFF 0xFFFF0140 full 0 0x04000683
  | 4 => mk 0xC30 0x130F 0x00000040 full 0 0x04000683
  | 5 => mk 0xC24 0x1FFF 0xFFFF0140 full 0x87 0x04000683
  | 6 => mk 0xC24 0x1FFF 0x00000040 full 0x87 0x04000683
  | 7 => mk 0xC24 0x1FFF 0xFFFF0140 full 0 0x04000683
  | 8 => mk 0xC24 0x130F 0x00000040 full 0 0x04000683
  | 9 => mk 0xC18 0x130F 0x00000040 full 0x87 0x04000683
  | 10 => mk 0xC18 0x130F 0xFFFF0140 0x00003F3F 0 0x04000683
  | 11 => mk 0xC18 0x130F 0x00000040 0x00003F3F 0 0x04000683
  | 12 => mk 0xC18 0 0x00000040 0x00003F33 0 0x04000681
  | _ => []

/-- FEATi of variant v for i ≤ 6; 0 for no variant. -/
def featWord (v i : Nat) : Word := ((featRow v)[i]?).getD 0

/-- Number of load channels (FEAT1.LC_COUNT). -/
def lcCount (v : Nat) : Nat := bits (featWord v 1) 0 8
/-- Valve n present (FEAT2.VL_MASK). -/
def hasValve (v n : Nat) : Bool := decide (n < 8) && bit (featWord v 2) n
/-- Bank b present (FEAT2.VB_MASK). -/
def hasBank (v b : Nat) : Bool := decide (b < 4) && bit (featWord v 2) (8 + b)
/-- Boost converter present. -/
def hasBoost (v : Nat) : Bool := bit (featWord v 2) 12
/-- Field island present. -/
def hasField (v : Nat) : Bool := bit (featWord v 3) 8
/-- Controller CANCk present. -/
def hasCan (v k : Nat) : Bool := decide (k < 4) && bit (featWord v 4) k
/-- Channel LINc present. -/
def hasLin (v c : Nat) : Bool := decide (c < 6) && bit (featWord v 4) (8 + c)
/-- Port TSp present. -/
def hasT1s (v p : Nat) : Bool := decide (p < 2) && bit (featWord v 4) (16 + p)
/-- Some T1S port is present. -/
def hasNet (v : Nat) : Bool := hasT1s v 0 || hasT1s v 1
/-- ACCESS present. -/
def hasAccess (v : Nat) : Bool := bit (featWord v 5) 0
/-- Coprocessor present. -/
def hasCopro (v : Nat) : Bool := bit (featWord v 6) 1
/-- Load channel n present. -/
def hasLoad (v n : Nat) : Bool := decide (n < lcCount v)
/-- Class H channel (R29). -/
def classH (n : Nat) : Bool := decide (n < 12)

/-! ### The press tick (R110) -/

/-- Press tick period in ns. -/
def tickPeriod (sel : Nat) : Nat := 125000 * 2 ^ sel
/-- Applet cycle limit (R110, R114): (0.9 P − 61 µs) × 200 cycles per µs. -/
def tickCycles (sel : Nat) : Nat := 22500 * 2 ^ sel - 12200

/-! ### Opcodes (R146) -/

/-- Kinds of node (R22). -/
inductive NodeKind where
  | root | load | valve | input | fio | bank | cask
  deriving DecidableEq, Repr, Inhabited

/-- Opcodes of the table whose LATER column says yes. -/
def laterAllowed (op : Nat) : Bool :=
  op == 0x13 || (0x20 ≤ op && op ≤ 0x24) || (0x28 ≤ op && op ≤ 0x2A) ||
  (0x30 ≤ op && op ≤ 0x32) || op == 0x38 || op == 0x39

/-- Defined opcodes. -/
def opcodeDefined (op : Nat) : Bool :=
  op ≤ 0x04 || (0x10 ≤ op && op ≤ 0x1A) || (0x20 ≤ op && op ≤ 0x24) ||
  (0x28 ≤ op && op ≤ 0x2A) || (0x30 ≤ op && op ≤ 0x33) || op == 0x38 || op == 0x39 ||
  (0x40 ≤ op && op ≤ 0x46) || (0x48 ≤ op && op ≤ 0x4D) || (0x50 ≤ op && op ≤ 0x52) ||
  (0x58 ≤ op && op ≤ 0x5D) || (0x60 ≤ op && op ≤ 0x65) || (0x70 ≤ op && op ≤ 0x74) ||
  (0x78 ≤ op && op ≤ 0x7B) || op == 0x7E || op == 0x7F

/-- Targets column: the opcode applies to a unit or root of this kind. Casks are judged by R153. -/
def opcodeTarget (op : Nat) (k : NodeKind) : Bool :=
  match k with
  | .root =>
      op ≤ 0x04 || (0x10 ≤ op && op ≤ 0x17) || op == 0x1A || op == 0x30 || op == 0x31 ||
      op == 0x33 || op == 0x39 || (0x40 ≤ op && op ≤ 0x63) || op == 0x65 || 0x70 ≤ op
  | .load => op == 0 || op == 1 || op == 4 || (0x20 ≤ op && op ≤ 0x24) || op == 0x31 ||
      op == 0x64 || op == 0x7A
  | .valve => op == 0 || op == 1 || op == 4 || (0x28 ≤ op && op ≤ 0x2A) || op == 0x31 || op == 0x64
  | .bank => op == 0 || op == 1 || op == 4 || op == 0x31
  | .input => op == 0 || op == 1 || op == 4 || (0x30 ≤ op && op ≤ 0x33)
  | .fio => op == 0 || op == 1 || op == 4 || op == 0x31 || op == 0x38 || op == 0x39 || op == 0x64
  | .cask => op == 0 || op == 1 || op == 4 || (0x18 ≤ op && op ≤ 0x1A)

/-- Opcodes that set outputs (R157). -/
def outputOpcode (op : Nat) : Bool :=
  (0x20 ≤ op && op ≤ 0x24) || (0x28 ≤ op && op ≤ 0x2A) || op == 0x38

/-- Opcodes that act on units through a root target (R113, R152). -/
def rootReaches (op : Nat) : Bool :=
  op == 0x30 || op == 0x31 || op == 0x33 || op == 0x39 || op == 0x7A

/-! ### Staged registers (R163) -/

/-- One field of a staged register: place, Reset value and stated range, by instance. -/
structure Fld where
  lo : Nat
  width : Nat
  reset : Nat → Nat
  ok : Nat → Nat → Bool

/-- A field whose range is an interval and whose Reset value is the same for every instance. -/
def fld (lo width reset least most : Nat) : Fld :=
  ⟨lo, width, fun _ => reset, fun _ v => decide (least ≤ v) && decide (v ≤ most)⟩
/-- A field with no stated range. -/
def fAny (lo width reset : Nat) : Fld := ⟨lo, width, fun _ => reset, fun _ _ => true⟩

/-- A row of staged registers: `count` of them from `base`, `stride` bytes apart. -/
structure StReg where
  base : Nat
  stride : Nat
  count : Nat
  /-- Keeps its value through a warm reset (R163). -/
  keep : Bool
  flds : List Fld

/-- FAULT_SRC_CFG.REACT of the fixed sources (R432). -/
def fixedReact (src : Nat) : Option Nat :=
  match src with
  | 0x00 => some 4 | 0x01 => some 4 | 0x03 => some 4 | 0x08 => some 0
  | _ => none

/-- Reset block of a fault source, by the index of SYSCTL_BLOCK_RST (R427). -/
def resetBlock (src : Nat) : Option Nat :=
  if 0x16 ≤ src ∧ src ≤ 0x1F then some 3
  else if 0x22 ≤ src ∧ src ≤ 0x29 then some 4
  else if src = 0x2A ∨ src = 0x2B then some 5
  else if 0x2C ≤ src ∧ src ≤ 0x34 then some 6
  else if 0x35 ≤ src ∧ src ≤ 0x3C then some 7
  else if 0x3D ≤ src ∧ src ≤ 0x3F then some 8
  else if 0x40 ≤ src ∧ src ≤ 0x43 then some 9
  else if 0x45 ≤ src ∧ src ≤ 0x47 then some 11
  else if 0x48 ≤ src ∧ src ≤ 0x4C then some 12
  else none

/-- Reserved fault source indices (R427). -/
def srcReserved (src : Nat) : Bool := decide (0x5E ≤ src)

/-- Staged registers of the CAN window, controller k (R320). -/
def canStaged (k : Nat) : List StReg :=
  let b := 0x40070000 + 0x4000 * k
  [⟨b, 4, 1, false, [fAny 0 1 0, fAny 1 1 1, fAny 2 2 0, fAny 4 1 0, fAny 5 1 0, fld 8 8 0x32 1 255]⟩,
   ⟨b + 4, 4, 1, false, [fAny 0 5 0, fld 8 8 0x7E 1 255, fAny 16 7 0x1F, fAny 24 7 0x1F]⟩,
   ⟨b + 8, 4, 1, false, [fAny 0 5 0, fAny 8 5 0x1C, fAny 16 4 0x9, fAny 24 4 0x9, fAny 28 1 1]⟩,
   ⟨b + 0x100, 4, 16, false, [fAny 0 29 0, fAny 29 1 0, fAny 31 1 0]⟩,
   ⟨b + 0x140, 4, 16, false, [fAny 0 29 0]⟩,
   ⟨b + 0x200, 4, 128, false, [fAny 0 29 0, fAny 29 1 0, fAny 31 1 0]⟩]

/-- Staged registers of the LIN window, channel c (R321). -/
def linStaged (c : Nat) : List StReg :=
  let b := 0x40080000 + 0x1000 * c
  [⟨b, 4, 1, false, [fAny 0 1 0, fAny 1 1 0, fAny 2 1 0, fld 8 16 0x4B00 1000 20000]⟩,
   ⟨b + 0x100, 4, 64, false,
     [⟨0, 2, fun _ => 0, fun i v => decide (v ≤ (if 0x3E ≤ i then 0 else 2))⟩, fld 2 4 8 1 8, fAny 6 1 1]⟩,
   ⟨b + 0x200, 4, 64, false, [fAny 0 6 0, fAny 8 8 0]⟩]

/-- Staged registers of the T1S window, port p (R347). -/
def t1sStaged (p : Nat) : List StReg :=
  let b := 0x40090000 + 0x1000 * p
  [⟨b, 4, 1, false, [fAny 0 1 0, fAny 1 1 0, fAny 2 1 1, fAny 3 1 0, fAny 8 3 0, fld 12 4 8 1 8,
     fld 16 8 0x20 1 255]⟩,
   ⟨b + 4, 4, 1, false, [fAny 0 8 0, fld 8 8 0x80 1 255]⟩,
   ⟨b + 8, 4, 1, false, [fld 0 1 0 0 0, fAny 1 31 0]⟩,
   ⟨b + 0xC, 4, 1, false, [fAny 0 16 0]⟩,
   ⟨b + 0x100, 8, 8, false, [⟨0, 32, fun m => if m = 0 then 0x00C28001 else 0, fun _ _ => true⟩]⟩,
   ⟨b + 0x104, 8, 8, false,
     [⟨0, 16, fun m => if m = 0 then 0x0E00 else 0, fun _ _ => true⟩,
      ⟨31, 1, fun m => if m = 0 then 1 else 0, fun _ _ => true⟩]⟩]

/-- Staged registers of one peripheral window, by window index 0 SYSCTL … 15 THERM. -/
def stagedOf (win : Nat) : List StReg :=
  match win with
  | 0 =>
    [⟨0x40000010, 4, 1, true, [fld 0 7 8 4 64]⟩,
     ⟨0x40000020, 4, 1, true, [fld 0 9 0x32 1 500]⟩,
     ⟨0x40000024, 4, 1, true, [fAny 0 32 0]⟩,
     ⟨0x40000028, 4, 1, true, [fAny 0 16 0]⟩,
     ⟨0x4000002C, 4, 1, true, [fAny 0 32 0]⟩,
     ⟨0x40000030, 4, 1, true, [fAny 0 16 0]⟩,
     ⟨0x40000040, 4, 1, false, [fld 0 10 0x64 1 1000]⟩,
     ⟨0x40000048, 4, 1, true, [fAny 0 1 0, fAny 1 1 0, fAny 2 1 0, fld 8 7 0x1C 12 72, fld 16 7 0x14 12 60]⟩,
     ⟨0x4000004C, 4, 1, true, [fAny 0 1 0, fAny 1 1 0, fAny 2 1 0]⟩]
  | 1 => [⟨0x40010000, 4, 1, false, [fld 0 3 3 0 6]⟩]
  | 2 => [⟨0x40020014, 4, 1, true, [fld 0 10 0 0 1000, fAny 12 4 0, fld 16 2 0 0 2]⟩]
  | 3 =>
    [⟨0x40030000, 0x100, 48, false, [fAny 0 1 1, fAny 1 1 0, fAny 2 3 0, fAny 5 2 1,
        ⟨8, 13, fun _ => 200, fun n v => decide (50 ≤ v) && decide (v ≤ (if n < 12 then 1000 else 5000))⟩]⟩,
     ⟨0x40030040, 0x100, 48, false, [fAny 0 4 7, fAny 4 4 2, fAny 8 4 3, fAny 12 1 1, fAny 13 1 0,
        fAny 16 4 3, fld 20 10 0x32 1 1000]⟩,
     ⟨0x40030044, 0x100, 48, false,
        [⟨0, 16, fun _ => 0, fun n v => decide (v ≤ (if n < 12 then 8000 else 2500))⟩]⟩,
     ⟨0x40033000, 4, 8, false, [fld 0 13 0x3E8 50 5000, fAny 16 4 2]⟩]
  | 4 =>
    [⟨0x40040000, 4, 1, false, [fAny 0 1 0, fAny 1 1 0, fld 8 8 0x78 96 130, fld 16 4 4 1 8,
        fld 20 4 8 4 16, fld 24 8 0xA0 80 240]⟩,
     ⟨0x40040100, 0x10, 4, false, [fAny 0 8 0x14]⟩,
     ⟨0x40040200, 0x20, 8, false, [fld 0 8 0x50 20 240, fld 8 8 0x28 10 160, fld 16 6 0x14 10 40]⟩,
     ⟨0x40040204, 0x20, 8, false, [fld 0 12 0x64 5 2000, fld 16 8 0x32 5 255]⟩]
  | 5 =>
    [⟨0x40050000, 4, 64, false, [fAny 0 2 0, fAny 2 1 0, fld 3 3 0 0 5, fAny 6 2 1, fld 8 8 0x32 15 180,
        fld 16 8 0x14 0 128, fld 24 3 1 0 5]⟩,
     ⟨0x40050400, 4, 1, false, [fAny 0 2 1]⟩,
     ⟨0x40050404, 4, 1, false, [fld 0 6 4 1 32]⟩,
     ⟨0x40050408, 4, 1, false, [fAny 0 32 0]⟩,
     ⟨0x4005040C, 4, 1, false, [fAny 0 32 0]⟩,
     ⟨0x40050420, 4, 1, false, [fAny 0 8 0, fAny 8 8 0, fAny 16 8 0, fAny 24 8 0]⟩]
  | 6 =>
    [⟨0x40060000, 4, 1, false, [fAny 0 1 0]⟩,
     ⟨0x40060100, 4, 16, false, [fAny 0 2 0, fAny 2 1 0, fAny 4 8 0x0A, fld 12 3 3 0 5, fAny 16 8 0x0A,
        fld 24 5 0 0 20, fAny 29 3 4]⟩]
  | 7 => canStaged 0 ++ canStaged 1 ++ canStaged 2 ++ canStaged 3
  | 8 => linStaged 0 ++ linStaged 1 ++ linStaged 2 ++ linStaged 3 ++ linStaged 4 ++ linStaged 5
  | 9 => t1sStaged 0 ++ t1sStaged 1
  | 10 => [⟨0x400A0050, 0x10, 3, true, [fld 0 2 0 0 2, fAny 8 7 0, fAny 16 12 0x177]⟩]
  | 11 =>
    [⟨0x400B0000, 4, 1, true, [fAny 0 1 0, fAny 1 1 1, fAny 2 1 1, fAny 4 2 0, fAny 8 5 0, fAny 16 6 0x30]⟩,
     ⟨0x400B0004, 4, 1, true, [fld 0 8 0x0A 1 100, fld 8 8 0x1A 2 255, fld 16 10 0x96 10 1000,
        fld 26 6 0x14 1 63]⟩,
     ⟨0x400B0008, 4, 1, true, [fAny 0 4 0, fAny 8 6 0, fAny 16 2 0]⟩]
  | 12 => [⟨0x400C0000, 4, 1, false, [fAny 0 1 0, fAny 2 2 2, fld 4 4 5 0 9, fld 8 8 0x1E 1 255,
        fld 16 8 0x0C 1 60]⟩]
  | 13 =>
    [⟨0x400D0000, 4, 1, true, [fld 0 10 0x64 1 1000, fAny 10 1 0]⟩,
     ⟨0x400D0100, 4, 94, true, [fld 0 8 1 1 255, fld 8 16 0x3E8 1 65000,
        ⟨24, 3, fun s => (fixedReact s).getD 1,
          fun s v => match fixedReact s with
            | some r => decide (v = r)
            | none => decide (v ≤ 4) && (v != 3 || (resetBlock s).isSome)⟩,
        fAny 27 1 0]⟩]
  | 14 => [⟨0x400E0000, 4, 1, false, [fAny 0 1 1, fld 4 13 0x10 1 4096, fld 20 4 4 1 15, fld 24 4 2 1 15]⟩]
  | 15 =>
    [⟨0x400F0000, 4, 1, false, [fld 0 8 0xA0 120 165, fld 8 4 4 0 8]⟩,
     ⟨0x400F0100, 4, 16, false, [⟨0, 12, fun c => if c < 4 then 500 else 600,
        fun _ v => decide (10 ≤ v) && decide (v ≤ 4000)⟩, fld 16 12 0xC8 10 4000]⟩]
  | _ => []

/-- The instance of register row r that sits at addr. -/
def stIndex (r : StReg) (addr : Nat) : Option Nat :=
  if r.base ≤ addr ∧ (addr - r.base) % r.stride = 0 ∧ (addr - r.base) / r.stride < r.count
  then some ((addr - r.base) / r.stride) else none

/-- Window index of a peripheral address (R13). -/
def winIndex (addr : Nat) : Nat := (addr - 0x40000000) / 0x10000

/-- The staged register at an address and its instance number. -/
def stagedAt (addr : Nat) : Option (StReg × Nat) :=
  if addr < 0x40000000 ∨ 0x40110000 ≤ addr then none
  else (stagedOf (winIndex addr)).findSome? (fun r => (stIndex r addr).map (fun i => (r, i)))

/-- Reset value of a staged register. -/
def stReset (r : StReg) (i : Nat) : Word :=
  w32 (r.flds.foldl (fun a f => a + place (f.reset i) f.lo f.width) 0)

/-- Bits of a staged register that are not reserved. -/
def stMask (r : StReg) : Word :=
  w32 (r.flds.foldl (fun a f => a + place (2 ^ f.width - 1) f.lo f.width) 0)

/-- A stored value with every out-of-range field replaced by its Reset value (R93 and the like). -/
def stEffective (r : StReg) (i : Nat) (w : Word) : Word :=
  w32 (r.flds.foldl (fun a f =>
    let v := bits w f.lo f.width
    a + place (if f.ok i v then v else f.reset i) f.lo f.width) 0)

/-- Some field of the register is outside its stated range. -/
def stOutOfRange (r : StReg) (i : Nat) (w : Word) : Bool :=
  r.flds.any (fun f => !f.ok i (bits w f.lo f.width))

/-- The staged register at an address, from a sparse list of stored values. -/
def stRead (l : List (Nat × Word)) (addr : Nat) : Word :=
  match stagedAt addr with
  | some (r, i) => (kvGet l addr).getD (stReset r i)
  | none => 0

/-- As it acts: out-of-range fields replaced by their Reset values. -/
def stActs (l : List (Nat × Word)) (addr : Nat) : Word :=
  match stagedAt addr with
  | some (r, i) => stEffective r i ((kvGet l addr).getD (stReset r i))
  | none => 0

/-- Store a staged register in a sparse list; reserved bits read 0 (R8). -/
def stWrite (l : List (Nat × Word)) (addr : Nat) (v : Word) : List (Nat × Word) :=
  match stagedAt addr with
  | some (r, i) => kvPut l (stReset r i) addr (v &&& stMask r)
  | none => l

/-! ### Thresholds and clusters -/

/-- Number of parallel segments with the spare (R215). -/
def segCount (n : Nat) : Nat := if n < 12 then 10 else 6

end Sys2Proof.Machine
end

