-- ==== Sys2Proof/Machine/Ops.lean ====
section
/-! DEFINITION. Named operations that every block shares: time, register access as a block sees
its own registers, unit updates, nodes, free values. -/

namespace Sys2Proof.Machine

/-- What every meaning answers: a next state. The fuses (R31, R33) and the waiting commands are
never an effect of a command. -/
def State.done (s t : State) : Host.Outcome State Fault Refusal :=
  .next { t with pending := s.pending, feat := { t.feat with variant := s.feat.variant } }

/-- Variant code of the fuses (R39). -/
def State.var (s : State) : Nat := s.feat.variant

/-- TB0 now in ns: the latest press tick and the PER cycles since (R111, R116). -/
def State.now (s : State) : Nat := s.clk.tickNs + 10 * s.clk.phase

/-- TB0 stands at 0 until the first press tick after a power-on reset (R330), and its bridge over Park is
made at the exit (R331). -/
def State.tbStands (s : State) : Bool :=
  (s.pwr.powerOn && (s.pwr.phase == .off || s.pwr.phase == .startup)) || s.pwr.phase == .park || s.pwr.phase == .cellar

/-- Move to `c` PER cycles after the latest press tick, never backwards; a new place in the order
of events (R486). -/
def State.atPhase (s : State) (c : Nat) : State :=
  { s with clk := { s.clk with phase := if s.tbStands then s.clk.phase else max s.clk.phase c }, evSeq := s.evSeq + 1 }

/-- The device executes commands and events of Run: not off, in Park, in Cellar or held in reset. -/
def State.running (s : State) : Bool := s.pwr.phase == .run || s.pwr.phase == .startup

/-- In Run, the first press tick passed. -/
def State.inRun (s : State) : Bool := s.pwr.phase == .run

/-- A step of racking is made only while the device stays in Run: a chip reset ends the frame. -/
def State.andRun (s : State) (f : State → State) : State := if s.inRun then f s else s

/-- Staged register at addr as its block acts on it now. -/
def State.reg (s : State) (addr : Nat) : Word := stActs s.svc addr
/-- Field of a staged register as its block acts on it now. -/
def State.cfg (s : State) (addr lo width : Nat) : Nat := bits (s.reg addr) lo width
/-- One-bit field of a staged register as its block acts on it now. -/
def State.cfgBit (s : State) (addr n : Nat) : Bool := bit (s.reg addr) n
/-- Stored staged register, as a read returns it. -/
def State.stored (s : State) (addr : Nat) : Word := stRead s.regs addr

/-! ### Register addresses -/

/-- LOADSW channel window (R14). -/
def lcBase (n : Nat) : Nat := 0x40030000 + 0x100 * n
def lcProt (n : Nat) : Nat := lcBase n + 0x40
def lcLoad (n : Nat) : Nat := lcBase n + 0x44
def pwmCfg (p : Nat) : Nat := 0x40033000 + 4 * p
def vlCfg (n : Nat) : Nat := 0x40040200 + 0x20 * n
def vlCfg2 (n : Nat) : Nat := 0x40040204 + 0x20 * n
def vbCfg (b : Nat) : Nat := 0x40040100 + 0x10 * b
def siCfg (n : Nat) : Nat := 0x40050000 + 4 * n
def fioCfg (n : Nat) : Nat := 0x40060100 + 4 * n
def canBase (k : Nat) : Nat := 0x40070000 + 0x4000 * k
def linBase (c : Nat) : Nat := 0x40080000 + 0x1000 * c
def t1sBase (p : Nat) : Nat := 0x40090000 + 0x1000 * p
def srcCfg (i : Nat) : Nat := 0x400D0100 + 4 * i

/-- A bit of a 48-channel mask kept in a LO and a HI register. -/
def State.maskBit (s : State) (lo n : Nat) : Bool :=
  if n < 32 then s.cfgBit lo n else s.cfgBit (lo + 4) (n - 32)
/-- LCn is hold-class (SYSCTL_HOLD_MASK). -/
def State.holdClass (s : State) (n : Nat) : Bool := hasLoad s.var n && s.maskBit 0x40000024 n
/-- Limp state of LCn (SYSCTL_LIMP). -/
def State.limpState (s : State) (n : Nat) : Bool := s.maskBit 0x4000002C n

/-! ### Units -/

def State.ch (s : State) (n : Nat) : LoadCh := vget s.load n
def State.updLoad (s : State) (n : Nat) (f : LoadCh → LoadCh) : State :=
  { s with load := vupd s.load n f }
def State.vl (s : State) (n : Nat) : Valve := vget s.valve.v n
def State.updValve (s : State) (n : Nat) (f : Valve → Valve) : State :=
  { s with valve := { s.valve with v := vupd s.valve.v n f } }
def State.vb (s : State) (b : Nat) : Bank := vget s.valve.b b
def State.updBank (s : State) (b : Nat) (f : Bank → Bank) : State :=
  { s with valve := { s.valve with b := vupd s.valve.b b f } }
def State.si (s : State) (n : Nat) : Port := vget s.port n
def State.updPort (s : State) (n : Nat) (f : Port → Port) : State :=
  { s with port := vupd s.port n f }
def State.fio (s : State) (n : Nat) : Fio := vget s.field.ch n
def State.updField (s : State) (f : Field → Field) : State := { s with field := f s.field }
def State.updFio (s : State) (n : Nat) (f : Fio → Fio) : State :=
  { s with field := { s.field with ch := vupd s.field.ch n f } }
def State.canc (s : State) (k : Nat) : Can := vget s.can k
def State.updCan (s : State) (k : Nat) (f : Can → Can) : State := { s with can := vupd s.can k f }
def State.linc (s : State) (c : Nat) : Lin := vget s.lin c
def State.updLin (s : State) (c : Nat) (f : Lin → Lin) : State := { s with lin := vupd s.lin c f }
def State.ts (s : State) (p : Nat) : T1s := vget s.t1s p
def State.updT1s (s : State) (p : Nat) (f : T1s → T1s) : State := { s with t1s := vupd s.t1s p f }
def State.slot (s : State) (i : Nat) : AppSlot := vget s.app i
def State.updSlot (s : State) (i : Nat) (f : AppSlot → AppSlot) : State :=
  { s with app := vupd s.app i f }
def State.tok (s : State) (i : Nat) : TokenSlot := vget s.acc.slots i
def State.updTok (s : State) (i : Nat) (f : TokenSlot → TokenSlot) : State :=
  { s with acc := { s.acc with slots := vupd s.acc.slots i f } }
def State.src (s : State) (i : Nat) : FaultSrc := vget s.flt.src i
def State.updSrc (s : State) (i : Nat) (f : FaultSrc → FaultSrc) : State :=
  { s with flt := { s.flt with src := vupd s.flt.src i f } }
def State.cl (s : State) (c : Nat) : Cluster := vget s.therm.cl c
def State.updCl (s : State) (c : Nat) (f : Cluster → Cluster) : State :=
  { s with therm := { s.therm with cl := vupd s.therm.cl c f } }

/-- A table of n units from a function of the unit number. -/
def tab {α : Type} (n : Nat) (f : Nat → α) : Vector α n := ⟨⟨(List.range n).map f⟩, by simp⟩

/-- Apply a state change for each number of a list, in order. -/
def State.forEach (s : State) (l : List Nat) (f : State → Nat → State) : State := l.foldl f s

/-- Load channels present. -/
def State.loads (s : State) : List Nat := List.range (lcCount s.var)
/-- Valves present. -/
def State.valves (s : State) : List Nat := (List.range 8).filter (hasValve s.var)
/-- Banks present. -/
def State.banks (s : State) : List Nat := (List.range 4).filter (hasBank s.var)
/-- Field channels present. -/
def State.fios (s : State) : List Nat := if hasField s.var then List.range 16 else []
/-- CAN controllers present. -/
def State.cans (s : State) : List Nat := (List.range 4).filter (hasCan s.var)
/-- LIN channels present. -/
def State.lins (s : State) : List Nat := (List.range 6).filter (hasLin s.var)
/-- T1S ports present. -/
def State.ports (s : State) : List Nat := (List.range 2).filter (hasT1s s.var)

/-! ### Nodes (R22, R23) -/

/-- Kind of a node ID of the table of R22; a cask ID is a cask whether or not one is defined. -/
def nodeKind (id : Nat) : Option NodeKind :=
  if id = 0 then some .root
  else if 0x0100 ≤ id ∧ id ≤ 0x012F then some .load
  else if 0x0200 ≤ id ∧ id ≤ 0x0207 then some .valve
  else if 0x0300 ≤ id ∧ id ≤ 0x033F then some .input
  else if 0x0400 ≤ id ∧ id ≤ 0x040F then some .fio
  else if 0x0500 ≤ id ∧ id ≤ 0x0503 then some .bank
  else if 0x8000 ≤ id ∧ id ≤ 0x83FF then some .cask
  else none

/-- A unit ID of the full-featured die. -/
def isUnit (id : Nat) : Bool :=
  match nodeKind id with
  | some .root | some .cask | none => false
  | _ => true

/-- The variant has this unit (R29). -/
def unitPresent (v id : Nat) : Bool :=
  match nodeKind id with
  | some .load => hasLoad v (id - 0x0100)
  | some .valve => hasValve v (id - 0x0200)
  | some .input => true
  | some .fio => hasField v
  | some .bank => hasBank v (id - 0x0500)
  | _ => false

/-- Present units in ascending node ID (R152). -/
def State.units (s : State) : List Nat :=
  s.loads.map (0x0100 + ·) ++ s.valves.map (0x0200 + ·) ++ (List.range 64).map (0x0300 + ·) ++
  s.fios.map (0x0400 + ·) ++ s.banks.map (0x0500 + ·)

/-! ### Supply and time -/

/-- A hold-off of R62 acts, or its outputs wait for the racking after its end. -/
def State.holdOff (s : State) : Bool := s.supply.low || s.supply.ov || s.supply.relDue

/-- VBAT region of R61: 0 low supply, 1 reduced, 2 full specification, 3 overvoltage. Before the
first tick has measured VBAT, the Reset value 2 stands (R93). -/
def State.region (s : State) : Nat :=
  if s.supply.low then 0
  else if s.supply.ov then 3
  else if s.supply.vbatMv = 0 then 2
  else if 6000 ≤ s.supply.vbatMv ∧ s.supply.vbatMv ≤ 32000 then 2 else 1

/-- Period of the frame in service in ns (R110). -/
def State.period (s : State) : Nat := tickPeriod s.clk.tickSel

/-- A fresh free value and the state that has taken it. -/
def State.fresh (s : State) : Word × State :=
  (Config.freeWord s.freeCtr, { s with freeCtr := s.freeCtr + 1 })

/-- Whole milliseconds left until a deadline (R80: LEASE_LEFT 492 with 492.01 ms left). -/
def msLeft (now deadline : Nat) : Nat := (deadline - now) / 1000000

end Sys2Proof.Machine
end

