-- ==== Sys2Proof/Machine/Gate.lean ====
section
/-! DEFINITION. LOADSW drive: the internal generator and its grid (R179-R181), ramps (R177),
pulse trains (R183), the ownership of an output (R157) and its gate command, and what a channel
does at the output update (R173) and at the end of DEMAG (R187, R188). -/

namespace Sys2Proof.Machine

/-! ### The generator -/

/-- PWM epoch counter E at TB0 time t: PWM cycles of 6.25 ns since the first press tick (R180). -/
def State.eAt (s : State) (t : Nat) : Nat := (t - s.clk.epoch) * 4 / 25

/-- PERIOD_CYC (R179). -/
def periodCyc (f : Nat) : Nat := 160000000 / f
/-- OFF_CYC (R180). -/
def offCyc (f p : Nat) : Nat := p * periodCyc f / 256
/-- PWM cycles since the latest period boundary of the grid (R180). -/
def posIn (f p e : Nat) : Nat :=
  (e + periodCyc f - offCyc f p % periodCyc f) % periodCyc f
/-- First period boundary after e. -/
def nextBound (f p e : Nat) : Nat := e + (periodCyc f - posIn f p e)
/-- First period boundary at or after e. -/
def boundFrom (f p e : Nat) : Nat := if posIn f p e = 0 then e else nextBound f p e

/-- MIN_ON of R172 in µs. -/
def minOnUs (slew : Nat) : Nat :=
  match slew with
  | 0 => 69 | 1 => 37 | 2 => 21 | _ => 13

/-- On-time and off-time adjustments of R179, and whether one was made. -/
def clipOn (on period least : Nat) : Nat × Bool :=
  let on1 := if 0 < on ∧ on < least then least else on
  if on1 < period ∧ period - on1 < least then (period, true) else (on1, on1 != on)

/-- ON_CYC of R179 after its adjustments, and whether one was made. -/
def onCyc (f duty slew : Nat) : Nat × Bool :=
  clipOn (duty * periodCyc f / 4095) (periodCyc f) (minOnUs slew * 160)

/-- What the generator runs at E: a grid with its duty, or a steady level (R181, R173). Until the
first boundary after the update the former grid or level stands; when the grid changed, the output
stays off from the end of the period in progress to the first boundary of the new grid. -/
def genRun (g : Gen) (e : Nat) : Option (Nat × Nat × Nat) × Bool :=
  match g.run with
  | none =>
      if e < nextBound g.freq g.phase g.upd then (none, g.level)
      else (some (g.freq, g.phase, g.duty), false)
  | some (f, p, d) =>
      let fin := nextBound f p g.upd
      if e < fin then (some (f, p, d), false)
      else if f = g.freq ∧ p = g.phase then (some (g.freq, g.phase, g.duty), false)
      else if e < boundFrom g.freq g.phase fin then (none, false)
      else (some (g.freq, g.phase, g.duty), false)

/-- Duty code that stands for the ramp duty of a period. -/
def rampCode : Nat := 4096

/-- Ramp duty of the period that starts at b (R177). -/
def rampDuty (ch : LoadCh) (b : Nat) : Nat :=
  (min 4095 (4095 * ((b : Int) - ch.rampAt) / ((ch.act.ramp * 1600000 : Nat) : Int))).toNat

/-- Duty that a running grid gives at E: its own, or the ramp's. -/
def runDuty (ch : LoadCh) (r : Nat × Nat × Nat) (e : Nat) : Nat :=
  if r.2.2 = rampCode then rampDuty ch (e - posIn r.1 r.2.1 e) else r.2.2

/-- Level of the generator at E (R179, R180). -/
def genLevel (ch : LoadCh) (slew e : Nat) : Bool :=
  match genRun ch.gen e with
  | (none, l) => l
  | (some r, _) => decide (posIn r.1 r.2.1 e < (onCyc r.1 (runDuty ch r e) slew).1)

/-- Where in a period its adjustments begin: the start of a raised on-time, the start of a removed
off-time (R179). -/
def clipMarks (f duty slew : Nat) : List Nat :=
  let per := periodCyc f
  let least := minOnUs slew * 160
  let on := duty * per / 4095
  let on1 := if 0 < on ∧ on < least then least else on
  (if on1 = on then [] else [0]) ++ (if on1 < per ∧ per - on1 < least then [on1] else [])

/-- A grid that runs from a to b makes an adjustment there. -/
def runClips (ch : LoadCh) (slew : Nat) (r : Nat × Nat × Nat) (a b : Nat) : Bool :=
  let pos := posIn r.1 r.2.1 a
  let first := if pos ≤ a then a - pos else nextBound r.1 r.2.1 a
  decide (a < b) && (List.range (min 64 ((b - first) / periodCyc r.1 + 1))).any (fun i =>
    let x := first + i * periodCyc r.1
    (clipMarks r.1 (runDuty ch r x) slew).any (fun m => decide (a ≤ x + m) && decide (x + m < b)))

/-- The generator makes an adjustment from E = a to E = b (R179, log 16). -/
def genClips (ch : LoadCh) (slew a b : Nat) : Bool :=
  let g := ch.gen
  let new := (g.freq, g.phase, g.duty)
  match g.run with
  | none => runClips ch slew new (max a (nextBound g.freq g.phase g.upd)) b
  | some r =>
      let fin := nextBound r.1 r.2.1 g.upd
      let start := if r.1 = g.freq ∧ r.2.1 = g.phase then fin else boundFrom g.freq g.phase fin
      runClips ch slew r a (min b fin) || runClips ch slew new (max a start) b

/-! ### Pulse trains -/

/-- Length of a train in ns (R183). -/
def trainNs (t : Train) : Nat := (t.count * t.width + (t.count - 1) * t.gap) * 10000
/-- Level of a train `el` ns after its start. -/
def trainLevel (t : Train) (el : Nat) : Bool :=
  if trainNs t ≤ el then t.pol
  else (decide (el % ((t.width + t.gap) * 10000) < t.width * 10000)) != t.pol

/-! ### Ownership and the gate (R157) -/

/-- SLEW of channel n. -/
def State.slew (s : State) (n : Nat) : Nat := s.cfg (lcBase n) 5 2
/-- The channel is driven from a pin (R184, R185: PIN_EN acts as 0 where GEN_EN is 1). -/
def State.pinEn (s : State) (n : Nat) : Bool := s.cfgBit (lcBase n) 1 && !s.cfgBit (lcBase n) 0
/-- The internal generator may run on the channel. -/
def State.genEn (s : State) (n : Nat) : Bool := s.cfgBit (lcBase n) 0
/-- Pin of channel n. -/
def State.pinOf (s : State) (n : Nat) : PwmPin := vget s.pins (s.cfg (lcBase n) 2 3)

/-- A pin beyond its FMAX holds the channels in mode PIN on it off (R185). -/
def State.pinFault (s : State) (n : Nat) : Bool := (s.ch n).act.mode == .pin && (s.pinOf n).overFF

/-- Period and on-time in ns that a pin gives a channel, and where in the period an adjustment begins: the glitch filter
takes out shorter pulses and gaps (log 109), then those below MIN_ON are treated as R179 treats generator times
(R184). -/
def pinShape (p : PwmPin) (filt least : Nat) : Nat × Nat × List Nat :=
  let h := if p.high < filt then 0 else if p.per - p.high < filt then p.per else p.high
  let on1 := if 0 < h ∧ h < least then least else h
  (p.per, (clipOn h p.per least).1,
   (if on1 = h then [] else [0]) ++ (if on1 < p.per ∧ p.per - on1 < least then [on1] else []))

/-- The pin's shape for channel n. -/
def State.pinFor (s : State) (n : Nat) : Nat × Nat × List Nat :=
  pinShape (s.pinOf n) (s.cfg (pwmCfg (s.cfg (lcBase n) 2 3)) 16 4 * 100) (minOnUs (s.slew n) * 1000)

/-- Level that the pin gives channel n at TB0 t. -/
def State.pinLevel (s : State) (n t : Nat) : Bool :=
  let p := s.pinOf n
  let w := s.pinFor n
  if w.1 = 0 then p.level else decide ((t - p.rise) % w.1 < w.2.1)

/-- An instant at place m of the periods of a wave that began at `rise` falls from TB0 a on and before b. -/
def waveMark (rise per m a b : Nat) : Bool :=
  let k := fun t => (t + per - 1 - (rise + m)) / per
  decide (0 < per) && decide (rise + m < b) && (decide (a ≤ rise + m) || k a != k b)

/-- Level that the commands give the output at time t (R173). -/
def State.cmdLevel (s : State) (n t : Nat) : Bool :=
  let ch := s.ch n
  match ch.act.mode with
  | .off => false
  | .wait => false
  | .on => true
  | .pwm => genLevel ch (s.slew n) (s.eAt t)
  | .ramp => genLevel ch (s.slew n) (s.eAt t)
  | .pin => !(s.pinOf n).overFF && s.pinLevel n t
  | .pulse => trainLevel ch.act.train (t - ch.modeAt)

/-- LOADSW_CH_SEG.STATE (R219). -/
def Seg.code (g : Seg) : Nat := if g.short_ then 4 else g.state

/-- Hardware protection turns a channel off while a keeper holds it (R78). -/
def Keeper.trip (k : Keeper) : Keeper := { k with tripped := k.held }

/-- Hardware protection holds the channel off (rung 1 of R157): latches of R194, R195, R197, R217,
a restart that waits for a racking or its output update (R198, R199), a supply hold-off (R62). -/
def State.protOff (s : State) (n : Nat) : Bool :=
  let ch := s.ch n
  ch.ocLatch || ch.locked || ch.thermLatch || ch.thermRel || ch.relHold || ch.segFail || ch.keeper.tripped || s.holdOff

/-- The limp state holds the channel: LIMPN is active, or it was released and the channel takes its
commanded state only at the next racking (R79, R80). -/
def State.limpHolds (s : State) (n : Nat) : Bool :=
  let ch := s.ch n
  s.pwr.limpActive || (s.pwr.limpRel && !ch.keeper.held && !ch.safeHeld && !ch.lossHeld)

/-- Party owning the output: LOADSW_CH_STAT.OWNER (R157, R193). -/
def State.owner (s : State) (n : Nat) : Nat :=
  let ch := s.ch n
  if s.protOff n then 1
  else if s.limpHolds n then 2
  else if ch.safeHeld || ch.lossHeld then 3
  else if ch.keeper.held then 4
  else 0

/-- Level that rung 2, 3, 4 or the commands give, below hardware protection. -/
def State.rungLevel (s : State) (n t : Nat) : Bool :=
  let ch := s.ch n
  if s.limpHolds n then ch.limpLevel
  else if ch.safeHeld then (if ch.keeper.held then ch.keeper.level else ch.safeLevel)
  else if ch.lossHeld then ch.lossLevel
  else if ch.keeper.held then ch.keeper.level
  else s.cmdLevel n t

/-- Gate command of channel n at time t (LOADSW_CH_STAT.GATE). -/
def State.gateAt (s : State) (n t : Nat) : Bool :=
  hasLoad s.var n && !s.pwr.fuseFailed && !s.protOff n && s.rungLevel n t

/-- Gate command now. -/
def State.gate (s : State) (n : Nat) : Bool := s.gateAt n s.now

/-- The command rung's output was on at some instant from t0 to t1 (R206). -/
def State.cmdOnWithin (s : State) (n t0 t1 : Nat) : Bool :=
  let ch := s.ch n
  s.cmdLevel n t0 || s.cmdLevel n t1 ||
  (match ch.act.mode with
   | .pwm | .ramp =>
       match genRun ch.gen (s.eAt t1) with
       | (some r, _) =>
           decide (0 < runDuty ch r (s.eAt t1)) && decide (nextBound r.1 r.2.1 (s.eAt t0) ≤ s.eAt t1)
       | (none, _) => false
   | .pulse => decide (ch.act.train.width + ch.act.train.gap ≤ (t1 - t0) / 10000) &&
       decide (t0 < ch.modeAt + trainNs ch.act.train)
   | .pin => !(s.pinOf n).overFF && decide (0 < (s.pinFor n).2.1) && waveMark (s.pinOf n).rise (s.pinFor n).1 0 t0 (t1 + 1)
   | _ => false)

/-- A channel modulates (R73): the command rung owns it and its mode is PWM, RAMP, PIN or PULSE. -/
def State.modulating (s : State) (n : Nat) : Bool :=
  s.owner n == 0 &&
  (match (s.ch n).act.mode with | .pwm | .ramp | .pin | .pulse => true | _ => false)

/-! ### What the output did up to now (R179, R184, R190) -/

/-- Instants of the sample grid in the diagnostic window after TB0 a and up to now: multiples of 10 µs of E (R110,
R190). -/
def State.gridPoints (s : State) (a : Nat) : List Nat :=
  let lo := max (a + 1) (s.clk.tickNs + s.period / 2)
  let hi := min s.now (s.clk.tickNs + s.period * 3 / 4 - 1)
  let k := (lo - s.clk.epoch + 9999) / 10000
  (List.range ((hi - s.clk.epoch) / 10000 + 1 - k)).map (fun i => s.clk.epoch + 10000 * (k + i))

/-- TB0 at which the on-time in progress at t began, by the mode in service. -/
def State.onStart (s : State) (n t : Nat) : Nat :=
  let ch := s.ch n
  match ch.act.mode with
  | .pwm | .ramp =>
      (match genRun ch.gen (s.eAt t) with | (some r, _) => t - posIn r.1 r.2.1 (s.eAt t) * 25 / 4 | (none, _) => t)
  | .pulse =>
      let el := (t - ch.modeAt) % ((ch.act.train.width + ch.act.train.gap) * 10000)
      if ch.act.train.pol then t - (el - ch.act.train.width * 10000) else t - el
  | .pin => t - (t - (s.pinOf n).rise) % (s.pinFor n).1
  | _ => 0

/-- An on-time or off-time was adjusted from TB0 a to b, with the mode in service (R179, R184, log 16). -/
def State.clipsIn (s : State) (n a b : Nat) : Bool :=
  let ch := s.ch n
  match ch.act.mode with
  | .pwm | .ramp => genClips ch (s.slew n) (s.eAt a) (s.eAt b)
  | .pin => !(s.pinOf n).overFF && (s.pinFor n).2.2.any (fun m => waveMark (s.pinOf n).rise (s.pinFor n).1 m a b)
  | _ => false

/-- Channel n is looked at before a change: its samples, adjustments and on-edges since the previous look. -/
def State.sweepLoad (s : State) (n : Nat) : State :=
  let ch := s.ch n
  if s.now ≤ ch.chgAt then s
  else
    let least := minOnUs (s.slew n) * 1000
    let edge := if !ch.lastLev && s.gateAt n ch.chgAt then ch.chgAt else ch.edgeAt
    let before := fun t => s.gateAt n (max ch.chgAt (t - least))
    let new := (s.gridPoints ch.chgAt).map (fun x =>
      let on := s.gateAt n x
      ({ on := on, count := on && decide (edge + least ≤ x) && before x, prot := s.protOff n } : Smp))
    let lev := s.gate n
    s.updLoad n (fun c => { c with
      chgAt := s.now, lastLev := lev
      edgeAt := if lev && !before s.now then max edge (s.onStart n s.now) else edge
      smp := new.reverse ++ c.smp
      clipAcc := c.clipAcc || (s.owner n == 0 && s.clipsIn n ch.chgAt s.now) })

/-- Every present channel is looked at. -/
def State.sweepLoads (s : State) : State := s.forEach s.loads State.sweepLoad

/-! ### Output update (R112 step 4, R173) -/

/-- What the commands drive on when a racking begins, before it changes anything (R187). -/
def State.noteDriven (s : State) : State :=
  s.forEach s.loads (fun t n => t.updLoad n (fun ch => { ch with driven := s.owner n == 0 && s.gate n }))

/-- A set-point change seen by the generator at E: what runs goes on until its period ends (R181). -/
def genUpdate (g : Gen) (f p d e : Nat) : Gen :=
  match genRun g e with
  | (some r, _) => { run := some r, level := false, freq := f, phase := p, duty := d, upd := e }
  | (none, l) => { run := none, level := l, freq := f, phase := p, duty := d, upd := e }

/-- The generator starts from a steady level at E (R173). -/
def genStart (level : Bool) (f p d e : Nat) : Gen :=
  { run := none, level := level, freq := f, phase := p, duty := d, upd := e }

/-- Elapsed ramp time at which the ramp duty first reaches d (R177). -/
def rampElapsed (d ramp : Nat) : Nat := (d * (ramp * 1600000) + 4094) / 4095

/-- Start of a ramp at E from a steady off level, or from a running PWM (R173, R177). -/
def startRamp (ch : LoadCh) (sp : SetPt) (e : Nat) (fromPwm : Bool) : LoadCh :=
  let g := if fromPwm then genUpdate ch.gen sp.freq sp.phase rampCode e
    else genStart false sp.freq sp.phase rampCode e
  let first := match g.run with
    | some r => if r.1 = sp.freq ∧ r.2.1 = sp.phase then nextBound r.1 r.2.1 e
        else boundFrom sp.freq sp.phase (nextBound r.1 r.2.1 e)
    | none => nextBound sp.freq sp.phase e
  let el := if fromPwm then rampElapsed sp.duty sp.ramp else 0
  { ch with gen := g, rampAt := (first : Int) - el }

/-- The channel takes the set-points sp at time t, with MODE written or not. `lev` is the output of
the command rung just before. -/
def takeSetPt (ch : LoadCh) (sp : SetPt) (modeNew genNew lev : Bool) (t e : Nat) : LoadCh :=
  if modeNew then
    match sp.mode with
    | .off | .on | .pin | .wait | .pulse => { ch with act := sp, modeAt := t }
    | .pwm =>
        let g := match ch.act.mode with
          | .pwm | .ramp => genUpdate ch.gen sp.freq sp.phase sp.duty e
          | _ => genStart lev sp.freq sp.phase sp.duty e
        { ch with act := sp, modeAt := t, gen := g }
    | .ramp =>
        match ch.act.mode with
        | .ramp => { ch with act := { sp with ramp := ch.act.ramp },
                             gen := genUpdate ch.gen sp.freq sp.phase rampCode e }
        | .pwm => { startRamp ch sp e true with act := sp, modeAt := t }
        | _ => { startRamp ch sp e false with act := sp, modeAt := t }
  else if genNew then
    match ch.act.mode with
    | .pwm => { ch with act := { sp with mode := .pwm }, gen := genUpdate ch.gen sp.freq sp.phase sp.duty e }
    | .ramp => { ch with act := { sp with mode := .ramp, ramp := ch.act.ramp },
                         gen := genUpdate ch.gen sp.freq sp.phase rampCode e }
    | m => { ch with act := { ch.act with mode := m, duty := sp.duty, freq := sp.freq, phase := sp.phase } }
  else ch

/-- The output update of one channel: its new shadow set-points act; an output that a command turns
off into OFF or WAIT starts DEMAG (R187). An output that protection, limp, a reaction or a keeper had off or on until
this racking is turned off by no command. -/
def State.updateChannel (s : State) (n : Nat) : State :=
  let t := s.now
  let ch := s.ch n
  let wasOn := ch.driven && s.owner n == 0
  let lev := s.cmdLevel n t
  let ch1 := takeSetPt ch ch.sh ch.modeNew ch.genNew lev t (s.eAt t)
  let off := match ch1.act.mode with | .off | .wait => true | _ => false
  let ch2 := { ch1 with modeNew := false, genNew := false, relHold := false }
  let ch3 := if ch.modeNew && wasOn && off then { ch2 with demagAt := some t, clampSeen := false } else ch2
  s.updLoad n (fun _ => ch3)

/-- The gate is on after an update: note it for the frame (R206) and the racking (R216). -/
def State.noteGate (s : State) (n : Nat) : State :=
  if s.gate n then
    s.updLoad n (fun ch => { ch with onFrame := true, onSince := true,
                                     drv := if s.owner n == 0 then ch.act else { ch.act with mode := .on } })
  else s

/-- The pending set-points of a channel whose DEMAG has ended: they act if the command rung owns the
output, or become the commanded state (R188). -/
def State.applyPending (s : State) (n : Nat) : State :=
  match (s.ch n).pend with
  | none => s
  | some sp =>
      let t := s.now
      let lev := s.cmdLevel n t
      let s1 := s.updLoad n (fun ch =>
        let c := takeSetPt { ch with sh := sp, pend := none } sp true true lev t (s.eAt t)
        { c with modeNew := false, genNew := false })
      s1.noteGate n

/-- A pending turn-on becomes the commanded state where protection holds the channel off (R188). -/
def State.pendToCommand (s : State) (n : Nat) : State :=
  match (s.ch n).pend with
  | none => s
  | some sp =>
      let t := s.now
      s.updLoad n (fun ch =>
        let c := takeSetPt { ch with sh := sp, pend := none } sp true true false t (s.eAt t)
        { c with modeNew := false, genNew := false })

/-- Every waiting turn-on becomes the commanded state where protection now holds the channel off (R188). -/
def State.protPends (s : State) : State :=
  s.forEach s.loads (fun t n => if (t.ch n).pend.isSome && t.protOff n then t.pendToCommand n else t)

/-- The commanded state that LOADSW_CH_SET shows: a pending MODE while PEND is 1 (R193). -/
def commanded (ch : LoadCh) : SetPt := ch.pend.getD ch.sh

end Sys2Proof.Machine
end

