-- ==== Sys2Proof/Machine/Reset.lean ====
section
/-! DEFINITION. Keepers and leases (R73-R78), the three reset classes (R66), the safe state (R438),
the limp pattern (R79) and the revocation of what a party holds (R439, R440). -/

namespace Sys2Proof.Machine

/-- A word from four bytes sent most significant first, the first at place i. -/
def be32 (l : List Byte) (i : Nat) : Word :=
  ofBytes (l[i + 3]?.getD 0) (l[i + 2]?.getD 0) (l[i + 1]?.getD 0) (l[i]?.getD 0)

/-! ### Keepers -/

/-- Level at which the keeper of channel n takes it: its output, its limp state while modulating,
off in WAIT, or what a higher rung gives (R73). -/
def State.keeperTakes (s : State) (n : Nat) : Bool :=
  match s.owner n with
  | 0 => if s.modulating n then s.limpState n else s.gate n
  | 3 => if (s.ch n).safeHeld then (if (s.ch n).keeper.held then (s.ch n).keeper.level else s.limpState n)
         else s.gate n
  | _ => s.gate n

/-- The keepers take every present hold-class channel (R73, R85). A channel already held stays as it is. -/
def State.keepersTake (s : State) : State :=
  s.forEach s.loads (fun t n =>
    if (s.ch n).keeper.held then t
    else if s.holdClass n then
      t.updLoad n (fun ch => { ch with keeper := { held := true, level := s.keeperTakes n, tripped := false } })
    else t)

/-- The keepers take their channels at a reset, and the lease starts unless one runs or has ended in a
limp state (R73, R74). -/
def State.takeKeepers (s : State) : State :=
  let s1 := s.keepersTake
  if s.pwr.holdState != 0 || s.loads.all (fun n => !s.holdClass n) then s1
  else { s1 with pwr := { s1.pwr with
          leaseEnd := some (s.now + 20000 + s.cfg 0x40000020 0 9 * 10000000), holdState := 1 } }

/-- A channel goes into its reset state; a keeper that holds it stays (R66), and so do the segments
that the ledger and the power cycle have settled (R216, R217). `safe`: the safe state of a recovery or
an escalation is in force and stays so over a block reset (R438). -/
def loadAfterReset (safe : Bool) (n : Nat) (ch : LoadCh) : LoadCh :=
  let r := loadReset n
  { r with keeper := ch.keeper, segFail := ch.segFail, spareIn := ch.spareIn, limpLevel := ch.limpLevel,
           segs := tab 10 (fun i =>
             { segReset n i with state := (vget ch.segs i).state }),
           safeHeld := safe && ch.safeHeld, safeLevel := safe && ch.safeLevel }

/-- A pin goes on carrying what it carries; what was measured of it is gone. -/
def pinAfterReset (p : PwmPin) : PwmPin :=
  { (default : PwmPin) with level := p.level, rise := p.rise, per := p.per, high := p.high }

/-- The lease ends: every channel still held takes its limp state (R77). -/
def State.endLease (s : State) : State :=
  let any := s.loads.any (fun n => (s.ch n).keeper.held)
  let s1 := s.forEach s.loads (fun t n =>
    if (s.ch n).keeper.held then
      t.updLoad n (fun ch => { ch with keeper := { ch.keeper with level := s.limpState n } })
    else t)
  { s1 with pwr := { s1.pwr with leaseEnd := none, holdState := if any then 2 else 0 } }

/-- Channel n passes back from its keeper or from a loss action: the state that held it becomes its
commanded state (R76, R137). A channel that tripped under its keeper, and whose latch a further reset has
cleared, waits for the next racking (R78). -/
def State.passBack (s : State) (n : Nat) : State :=
  let lev := if (s.ch n).keeper.held then (s.ch n).keeper.level else (s.ch n).lossLevel
  let m : DriveMode := if lev then .on else .off
  let s1 := s.updLoad n (fun ch =>
    { ch with keeper := default, thermRel := ch.thermRel || (ch.keeper.tripped && !ch.ocLatch && !ch.thermLatch)
              lossHeld := false, modeNew := false,
              sh := { ch.sh with mode := m }, act := { ch.act with mode := m } })
  if s1.pwr.holdState = 2 && s1.loads.all (fun k => !(s1.ch k).keeper.held) then
    { s1 with pwr := { s1.pwr with holdState := 0 } } else s1

/-! ### The limp pattern (R79) -/

/-- LIMPN is recognised low: every present channel takes its limp state of that moment. -/
def State.takeLimp (s : State) : State :=
  let s1 := s.forEach s.loads (fun t n =>
    t.updLoad n (fun ch => { ch with limpLevel := s.limpState n }))
  { s1 with pwr := { s1.pwr with limpActive := true, limpRel := false, limpnLow := true } }

/-! ### Valves (R228, R232, R241) -/

/-- An event with no bus access (R431). -/
def plainEvent (src info : Nat) : FEvent :=
  { src := src, info := info, master := 7, access := 3, size := 0, addr := 0, data := 0 }
/-- An event that blames a party by its master ID (R427). -/
def blameEvent (src info m : Nat) : FEvent := { plainEvent src info with master := m }

/-- The other valve of the bank (R222). -/
def partner (n : Nat) : Nat := if n % 2 = 0 then n + 1 else n - 1

def State.iPeak (s : State) (n : Nat) : Nat := s.cfg (vlCfg n) 0 8 * 50
def State.iHoldCfg (s : State) (n : Nat) : Nat := s.cfg (vlCfg n) 8 8 * 25
/-- Hold current: I_HOLD or the override (R228). -/
def State.iHold (s : State) (n : Nat) : Nat :=
  if (s.vl n).ovr != 0 then (s.vl n).ovr else s.iHoldCfg n
/-- PEAK_TIME and DECAY_TMAX in ns. -/
def State.peakNs (s : State) (n : Nat) : Nat := s.cfg (vlCfg2 n) 0 12 * 10000
def State.decayNs (s : State) (n : Nat) : Nat := s.cfg (vlCfg2 n) 16 8 * 10000

/-- What the end of a peak records, with its highest current in mA, the time to I_PEAK in µs and the energy
drawn in 0.1 mJ: REACH_US, the energy, and OPEN or PEAK_MISS with its event still to be counted (R230, R240). -/
def State.endPeak (s : State) (n topMa reachUs boost : Nat) : State :=
  let ip := s.iPeak n
  let s1 := s.updValve n (fun v =>
    { v with accBoost := v.accBoost + boost, reachUs := if ip ≤ topMa then min reachUs 65534 else 0xFFFF
             open_ := v.open_ || decide (topMa * 5 < ip)
             peakMiss := v.peakMiss || (decide (ip ≤ topMa * 5) && decide (topMa < ip)) })
  if topMa * 5 < ip then { s1 with flt := { s1.flt with owed := s1.flt.owed ++ [plainEvent 0x25 n] } }
  else if topMa < ip then { s1 with flt := { s1.flt with owed := s1.flt.owed ++ [plainEvent 0x26 n] } }
  else s1

/-- What the end of a DROP records: its time, and the energy returned in 0.1 mJ (R240, R248). -/
def State.endDrop (s : State) (n rec_ : Nat) : State :=
  s.updValve n (fun v =>
    { v with dropUs := min 65535 ((s.now - v.phaseAt) / 1000), accRec := v.accRec + rec_ })

/-- A peak or a DROP that a command, a protection or the safe state cuts short. No event brings what the block
measured until then: the highest current, the time to I_PEAK within the time elapsed, and the energies are free
values (log 96). -/
def State.cutPhase (s : State) (n : Nat) : State :=
  match (s.vl n).st with
  | .peak =>
      let a := s.fresh
      let b := a.2.fresh
      let c := b.2.fresh
      c.2.endPeak n (a.1.toNat % 65536) (b.1.toNat % ((s.now - (s.vl n).peakAt) / 1000 + 1)) (c.1.toNat % 65536)
  | .drop =>
      let a := s.fresh
      a.2.endDrop n (a.1.toNat % 65536)
  | _ => s

/-- Valve n is in RELEASE from now on. -/
def State.toRelease (s : State) (n : Nat) : State :=
  s.updValve n (fun v => { v with st := .release, phaseAt := s.now, duration := 0, deferHolds := false })

/-- Valve n enters RELEASE now, out of whatever state it is in. -/
def State.enterRelease (s : State) (n : Nat) : State := (s.cutPhase n).toRelease n

/-- A RELEASE beside a peak of the same bank is slowed (R237). -/
def State.slowReleases (s : State) : State :=
  s.forEach (List.range 8) (fun t n =>
    if (t.vl n).st == .release && (t.vl (partner n)).st == .peak then t.updValve n (fun v => { v with relSlowed := true })
    else t)

/-- Valve n leaves the peak queue. -/
def State.dequeue (s : State) (n : Nat) : State :=
  { s with valve := { s.valve with queue := s.valve.queue.filter (· != n) } }

/-- Valve n is taken to RELEASE or OFF and its queue place and pending command are dropped
(R241, R438). -/
def State.dropValve (s : State) (n : Nat) : State :=
  let s1 := (s.dequeue n).updValve n (fun v => { v with pend := none, todo := [] })
  match (s.vl n).st with
  | .off => s1
  | .release => s1
  | .defer => if (s.vl n).deferHolds then s1.enterRelease n
              else s1.updValve n (fun v => { v with st := .off, ovr := 0, duration := 0 })
  | _ => s1.enterRelease n

/-- VALVE_RELEASE acts on valve n (R232, R239): it leaves the queue, and a pending turn-on is cancelled. -/
def State.releaseValve (s : State) (n : Nat) : State :=
  match (s.vl n).st with
  | .off => s
  | .defer =>
      if (s.vl n).deferHolds then (s.dequeue n).enterRelease n
      else (s.dequeue n).updValve n (fun v => { v with st := .off, duration := 0, ovr := 0 })
  | .peak | .drop | .hold => s.enterRelease n
  | .release =>
      if (s.vl n).pend.isSome then
        (s.dequeue n).updValve n (fun v => { v with pend := none, pendCancel := satInc v.pendCancel 255 })
      else s

/-- Switching of the boost stops and the capacitor is bled (R226). -/
def State.boostDischarge (s : State) : State :=
  match s.valve.boost with
  | .charge | .ready | .held => { s with valve := { s.valve with boost := .discharge, switching := false } }
  | _ => s

/-! ### Field outputs (R275, R288) -/

/-- Every output's commanded state is OFF and a pulse is dropped; the couplers of FIO0-FIO3 carry it at once (R275). -/
def State.fieldDrop (s : State) : State :=
  s.updField (fun f => { f with ch := tab 16 (fun n =>
    let c := vget f.ch n
    if n < 4 then { c with sh := .off, shNew := false, drive := .off, cmdNew := false, iDrive := .off, iGate := false, relDue := false }
    else { c with sh := .off, shNew := false, drive := .off, cmdNew := false, relDue := false }) })

/-- The same with the all-off code of the next downlink cycle: the island's outputs are off within 20 µs (R288). -/
def State.fieldOff (s : State) : State :=
  s.fieldDrop.updField (fun f => { f with ch := tab 16 (fun n =>
    { (vget f.ch n) with iDrive := .off, iGate := false }) })

/-! ### The safe state (R438) -/

/-- The LF drivers turn off and a challenge in progress ends with result NO_ANSWER (R438). -/
def State.lfOff (s : State) : State :=
  if s.acc.challenge.isSome then
    { s with
      acc := { s.acc with challenge := none, lfFail := satInc s.acc.lfFail 255 }
      eng := { s.eng with outst := s.eng.outst.map (fun o =>
        match o.wait with
        | .challenge => if o.answer.isNone then { o with answer := some (0, [1, 0]) } else o
        | _ => o) } }
  else s

/-- Every output takes its safe state. -/
def State.forceSafe (s0 : State) : State :=
  let s := s0.sweepLoads
  let s1 := s.forEach s.loads (fun t n =>
    t.updLoad n (fun ch => { ch with safeHeld := true, safeLevel := s.holdClass n && s.limpState n }))
  let s2 := s1.forEach s1.valves State.dropValve
  let s3 := s2.fieldOff.lfOff
  { s3 with flt := { s3.flt with safe := true } }

/-! ### Applet stops (R420) -/

/-- A started slot stops: READY, grants ended, staged start cleared. Its queued requests are dropped
where `drop` says so. -/
def State.stopApplet (s : State) (i cause : Nat) (drop : Bool) : State :=
  if (s.slot i).st == .started then
    let s1 := s.updSlot i (fun a =>
      { a with st := .ready, live := none, staged := none, grants := [], stagedGrants := [],
               stopCause := cause, overRun := 0 })
    let s2 := { s1 with appTodo := s1.appTodo.filter (· != i) }
    if drop then
      { s2 with eng := { s2.eng with
          rack := s2.eng.rack.filter (fun q => q.slot != some i)
          qNext := s2.eng.qNext.filter (fun q => q.slot != some i)
          qAfter := s2.eng.qAfter.filter (fun q => q.slot != some i) } }
    else s2
  else s

/-! ### Locks and leases (R439, R440) -/

/-- A closed vat. -/
def closeVat (v : Vat) (lastEnd : Nat) : Vat :=
  { v with st := .closed, img := default, lastEnd := lastEnd }

/-- Starts and grants staged in a vat that closes are dropped with it. -/
def State.unstage (s : State) : State :=
  s.forEach (List.range 8) (fun t i => t.updSlot i (fun a => { a with staged := none, stagedGrants := [] }))

/-- Give a command answered at a later racking its answer (R144). -/
def State.answer (s : State) (p : Outst → Bool) (status : Nat) (payload : List Word) : State :=
  { s with eng := { s.eng with outst := s.eng.outst.map (fun o =>
      if p o && o.answer.isNone then { o with answer := some (status, payload) } else o) } }

/-- A command waits for a vat check. -/
def waitsVatCheck (o : Outst) : Bool := match o.wait with | .vatCheck => true | _ => false

/-- The vat lease is revoked (R161); a bottling vat goes on. -/
def State.revokeVat (s : State) : State :=
  match s.vat.st with
  | .open | .checking | .checked =>
      let s1 := if s.vat.st == .checking then s.answer waitsVatCheck 0x21 [] else s
      { s1.unstage with vat := closeVat s1.vat 4 }
  | _ => s

/-- Unlock an object: an incoming buffer becomes the current one (R299-R301). -/
def canUnlock (o : CanObj) : CanObj :=
  match o.inc with
  | some b => { o with lock := none, inc := none, cur := { b with lost := b.lost || o.cur.new } }
  | none => { o with lock := none }
/-- Unlock a LIN receive buffer (R318). -/
def linUnlock (b : LinBuf) : LinBuf :=
  match b.inc with
  | some e => { b with lock := none, inc := none, cur := { e with lost := e.lost || b.cur.new } }
  | none => { b with lock := none }

/-- Drop every object and buffer lock of a master, counting LOCK_EXPIRE (R439). -/
def State.revokeLocks (s : State) (m : Nat) : State :=
  let s1 := s.forEach s.cans (fun t k => t.updCan k (fun c =>
    let n := (c.obj.filter (fun o => o.2.lock.any (fun l => l.1 == m))).length
    { c with obj := c.obj.map (fun o => if o.2.lock.any (fun l => l.1 == m) then (o.1, canUnlock o.2) else o),
             lockExpire := satAdd c.lockExpire n 255 }))
  s1.forEach s1.lins (fun t c => t.updLin c (fun l =>
    { l with rx := l.rx.map (fun b => if b.2.lock.any (fun k => k.1 == m) then (b.1, linUnlock b.2) else b) }))

/-- The party of a blamed master is declared faulty and loses what it holds (R440). A master ID of 0
or 4 names no party (R428). -/
def State.declare (s : State) (m : Nat) : State :=
  if m = 1 ∨ m = 2 ∨ m = 3 ∨ m = 5 then
    let s1 := { s with flt := { s.flt with declared := s.flt.declared ||| (1 <<< m) } }
    let s2 := s1.revokeLocks m
    if m = 1 then s2.forEach (List.range 8) (fun t i => t.stopApplet i 5 true)
    else if m = 3 then s2.revokeVat
    else s2
  else s

/-! ### Resets -/

/-- Staged registers that keep their values through a warm reset (R163). -/
def keptRegs (l : List (Nat × Word)) : List (Nat × Word) :=
  l.filter (fun p => match stagedAt p.1 with | some (r, _) => r.keep | none => false)

/-- Registers of one window taken out of a sparse list. -/
def dropWindow (l : List (Nat × Word)) (win : Nat) : List (Nat × Word) :=
  l.filter (fun p => winIndex p.1 != win)
/-- Registers of one window taken from another list, the rest kept. -/
def loadWindow (l img : List (Nat × Word)) (win : Nat) : List (Nat × Word) :=
  (img.filter (fun p => winIndex p.1 == win)).foldl (fun a p => kvSet a p.1 p.2) (dropWindow l win)

/-- A controller with its frames, queues and objects gone; replaced objects stay mapped to their
spares (R45, R311). -/
def canAfterReset (c : Can) : Can :=
  { (default : Can) with
    obj := c.obj.filterMap (fun o =>
      if o.2.phys != o.1 then some (o.1, { (default : CanObj) with phys := o.2.phys }) else none)
    sparesUsed := c.sparesUsed, filtSpare := c.filtSpare }

/-- The key store and the deadlines stay; the session, dealer window, challenge and outstanding writes
go (R388). -/
def accAfterReset (a : Acc) (lastEnd entries : Nat) : Acc :=
  { (default : Acc) with
    slots := ⟨⟨a.slots.toList.map (fun t => { t with latest := none, cand := none })⟩, by simp⟩
    lastEnd := lastEnd
    throttleEnd := a.throttleEnd, recent := a.recent, thrEntries := entries
    thrFlag := a.thrFlag, lockFlag := a.lockFlag
    code := a.code, wrong := a.wrong, lockEnd := a.lockEnd }

/-- The session ends with a cause where one is open; else the latest cause stays (R378). -/
def sessionCause (a : Acc) (cause : Nat) : Nat := if a.session.isSome then cause else a.lastEnd

/-- A slot after a reset: READY where its store holds an image; a write in progress is lost (R418). -/
def slotAfterReset (a : AppSlot) (cause : Nat) : AppSlot :=
  let store := if a.st == .writing then none else a.store
  { (default : AppSlot) with
    st := if store.isSome then .ready else .empty
    store := store, gen := a.gen
    stopCause := if a.st == .started then cause else a.stopCause
    trap := a.trap }

/-- What a warm reset and a Park exit have in common: every register field that does not keep its
value returns to its Reset value (R9, R66, R88). The keepers, PARK-domain registers, flash contents,
fuses, pins and comparators stay. -/
def State.volatileReset (s : State) : State :=
  { s with
    clk := { clkReset with tickNs := s.clk.tickNs, phase := s.clk.phase, parkHz := s.clk.parkHz }
    supply := { s.supply with vbatMv := 0, lowSeen := false, ovSeen := false,
                              lowWin := false, ovWin := false,
                              skewFrom := default, skewDone := default }
    pwr := { s.pwr with entry := none, refuser := 0, abandon := 0, woke := false,
                        resumeDue := false, handBack := [], nmi := false, limpRel := false, wdgMissed := 0, woken := false, patchApplied := 0,
                        patchRejected := 0, patchLevel := 0, fuseFailed := false }
    link := { linkReset with lost := s.link.lost, lossCount := s.link.lossCount, nextNum := s.link.nextNum }
    eng := default
    vat := { closeVat s.vat 0 with
             leaseFrom := 0, resReason := 0, resFails := 0, resWhere := 0, liveGen := 0, writing := [] }
    load := tab 48 (fun n => loadAfterReset false n (s.ch n))
    pins := ⟨⟨s.pins.toList.map pinAfterReset⟩, by simp⟩
    therm := default
    valve := { (default : ValveBlk) with
      v := Vector.replicate 8 valveReset
      boost := match s.valve.boost with | .off => .off | _ => .discharge }
    port := Vector.replicate 64 { (default : Port) with swept := s.now }
    field := { fieldReset with losses := s.field.losses, relocks := s.field.relocks }
    can := ⟨⟨s.can.toList.map canAfterReset⟩, by simp⟩
    tickTsc := 0
    lin := default
    t1s := default
    tim := { s.tim with tb0Rc := true, bridged := false, bridgeUs := 0, tick := default,
                        tb := ⟨⟨s.tim.tb.toList.map (fun b =>
                          { b with sync := if b.sync == SyncSt.none_ then SyncSt.none_ else .waiting,
                                   losses := 0, ageFrom := s.now })⟩, by simp⟩ }
    adj := []
    nm := { (default : Nm) with wakeRec := s.nm.wakeRec, wakeTime := s.nm.wakeTime }
    acc := accAfterReset s.acc (sessionCause s.acc 7) s.acc.thrEntries
    accEnd := none
    app := ⟨⟨s.app.toList.map (fun a => slotAfterReset a 6)⟩, by simp⟩
    appTodo := []
    core := coreReset
    win := default
    flt := { s.flt with st := .start, safe := true, scopeBlock := false, rblock := 0, declared := 0,
                        cause := 0, quietFrom := 0, test := none }
    mem := { memReset with rowSpares := s.mem.rowSpares, badSpares := s.mem.badSpares,
                           pageSpares := s.mem.pageSpares }
    latches := default }

/-- Wake bookkeeping of NETMGR at a warm reset (R361): 2 BUS_SLEEP, 1 START with no pulse. -/
def nmResume (n : Nm) : Nat :=
  match n.st with
  | .waitSleep | .busSleep => 2
  | .off => 0
  | _ => 1

/-- Warm reset with a SYSCTL_RST_CAUSE bit (R66, R71, R73): the keepers take the hold-class channels,
everything else returns to its Reset value, start-up begins. A key store or LAST write in progress is
completed or lost whole: a free value decides (R371, R388). -/
def State.warmReset (s : State) (causeBit : Nat) : State :=
  let s0 := s.takeKeepers
  let kept := keptRegs s0.regs
  let acc1 : Acc := s0.acc
  let (w, s1) := if acc1.writes.isEmpty && acc1.keyWrites.isEmpty then ((0 : Word), s0) else s0.fresh
  let done := bit w 0
  let tok := if done then
      acc1.writes.foldl (fun v t => vupd v t.slot (fun k => { k with last := be32 t.bytes 5 })) acc1.slots
    else acc1.slots
  let tok2 := match acc1.keyWrites.head? with
    | some (.enrol sl id last kT kI) =>
        if done then vput tok sl { (default : TokenSlot) with st := .pending, tokenId := id, kT := kT,
                                                              kI := kI, last := last, pendFrom := s0.now }
        else tok
    | some (.revoke sl) => if done then vput tok sl default else tok
    | none => tok
  let s2 := { s1 with acc := { acc1 with slots := tok2 } }
  let r := nmResume s.nm
  let s3 := s2.volatileReset
  { s3 with
    clk := { s3.clk with rampExp := s.clk.rampExp, rampDir := 1 }
    pwr := { s3.pwr with phase := .startup, powerOn := false, booted := false,
                         rstCause := s.pwr.rstCause ||| (1 <<< causeBit) }
    live := { (default : Image) with regs := kept }
    regs := kept, svc := kept
    nm := { s3.nm with resume := r } }

/-- Power-on reset (R66): everything returns to its Reset value but what lies in flash, the fuses, the
pin levels and the supply comparators. A PENDING slot starts its 600 s again (log 113). -/
def State.powerReset (s : State) : State :=
  { State.reset with
    pending := s.pending, freeCtr := s.freeCtr, evSeq := s.evSeq, contact := s.contact
    supply := { (default : Supply) with low := s.supply.low, ov := s.supply.ov, vioOk := s.supply.vioOk }
    pwr := { pwrReset with rstnLow := s.pwr.rstnLow, limpnLow := s.pwr.limpnLow, limpActive := s.pwr.limpnLow }
    pins := ⟨⟨s.pins.toList.map pinAfterReset⟩, by simp⟩
    vat := { (default : Vat) with stored := s.vat.stored }
    acc := { (accAfterReset s.acc 0 0) with
      recent := [], throttleEnd := none, lockEnd := none
      slots := ⟨⟨s.acc.slots.toList.map (fun t => { t with latest := none, cand := none, pendFrom := 0 })⟩, by simp⟩ }
    app := ⟨⟨s.app.toList.map (fun a => { slotAfterReset a 0 with stopCause := 0, trap := default })⟩, by simp⟩
    feat := { (default : Feat) with variant := s.feat.variant, copyA := s.feat.copyA, copyB := s.feat.copyB, win := spareReset } }

/-! ### Block resets (R69, R103) -/

/-- Blocks that may be reset, by window index (R93). -/
def resettable (b : Nat) : Bool :=
  b == 3 || b == 4 || b == 5 || b == 6 || b == 7 || b == 8 || b == 9 || b == 11 || b == 12

/-- The block of a window index is present (R29). -/
def blockPresent (v b : Nat) : Bool :=
  match b with
  | 4 => hasBoost v
  | 6 => hasField v
  | 9 => hasNet v
  | 12 => hasAccess v
  | _ => decide (b ≤ 16)

/-- A block reset: the registers and engines of one block return to their Reset values, its outputs go
off, its clocks are gated for 1 µs, and the reload follows at the next racking (R66, R69, R103). -/
def State.blockReset (s : State) (b : Nat) : State :=
  let s0 := if b = 3 then s.sweepLoads.takeKeepers else s
  let s1 := { s0 with
    regs := dropWindow s0.regs b, svc := dropWindow s0.svc b
    clk := { s0.clk with gated := s0.clk.gated ++ [(b, s0.now)], reload := insertAsc b s0.clk.reload }
    pwr := { s0.pwr with rstCause := s0.pwr.rstCause ||| 64, blkAt := some s0.now } }
  match b with
  | 3 => { s1 with
      pwr := { s1.pwr with limpRel := false }
      clk := { s1.clk with loadRst := s1.clk.loadRst ||
        (decide (s1.period ≤ 2 * (10 * s1.clk.phase + 1000)) && decide (40 * s1.clk.phase < 3 * s1.period)) }
      load := tab 48 (fun n =>
        let c := s1.ch n
        { loadAfterReset s1.flt.safe n c with shot := c.shot, pub := c.pub, smp := c.smp, clipAcc := c.clipAcc, chgAt := c.chgAt })
      pins := ⟨⟨s1.pins.toList.map pinAfterReset⟩, by simp⟩ }
  | 4 => { s1 with valve := { (default : ValveBlk) with
      v := Vector.replicate 8 valveReset
      boost := match s1.valve.boost with | .off => .off | _ => .discharge } }
  | 5 => { s1 with port := Vector.replicate 64 { (default : Port) with swept := s1.now } }
  | 6 => { s1 with field := { fieldReset with losses := s1.field.losses, relocks := s1.field.relocks } }
  | 7 => { s1 with can := ⟨⟨s1.can.toList.map canAfterReset⟩, by simp⟩ }
  | 8 => { s1 with lin := default }
  | 9 => { s1 with t1s := default }
  | 11 => { s1 with nm := default }
  | 12 => { s1 with acc := accAfterReset s1.acc 0 0, accEnd := none }
  | _ => s1

end Sys2Proof.Machine
end

