-- ==== Sys2Proof/Machine/Faults.lean ====
section
/-! DEFINITION. The fault collector as a shared operation: counting in a window (R429), captures
(R431), reactions (R432-R436), held events (R485), and the registers that show it (R445). -/

namespace Sys2Proof.Machine

/-- N of FAULT_SRC_CFG(s). -/
def State.faultN (s : State) (i : Nat) : Nat := s.cfg (srcCfg i) 0 8
/-- WINDOW of FAULT_SRC_CFG(s) in ns. -/
def State.faultWin (s : State) (i : Nat) : Nat := s.cfg (srcCfg i) 8 16 * 1000000
/-- REACT of FAULT_SRC_CFG(s). -/
def State.faultReact (s : State) (i : Nat) : Nat := s.cfg (srcCfg i) 24 3
/-- FLTN_EN of FAULT_SRC_CFG(s). -/
def State.fltnEn (s : State) (i : Nat) : Bool := s.cfgBit (srcCfg i) 27

/-- The source is COUNTING at the edge now (R429). -/
def State.winOpen (s : State) (i : Nat) : Bool :=
  match (s.src i).openAt with
  | some t => decide (s.now < t + s.faultWin i)
  | none => false

/-- Blamed party of a source: the master of the access for bus and memory sources, the party named by
the table for the others (R427). -/
def blamed (ev : FEvent) : Nat :=
  if (0x0C ≤ ev.src ∧ ev.src ≤ 0x10) ∨ ev.src = 0x39 ∨ ev.src = 0x3E ∨ ev.src = 0x51 ∨ ev.src = 0x53 ∨
     ev.src = 0x56 ∨ ev.src = 0x58 then ev.master
  else if ev.src = 0x11 ∨ (0x4D ≤ ev.src ∧ ev.src ≤ 0x4F) then 1
  else if 0x13 ≤ ev.src ∧ ev.src ≤ 0x15 then 3
  else 7

/-- The capture record of an event at TB0 t (R431). -/
def captureOf (ev : FEvent) (t : Nat) : Capture :=
  { w0 := w32 (place ev.src 0 8 + place ev.master 8 3 + place ev.access 11 3 + place ev.size 14 2 +
               place ev.info 16 16)
    w1 := w32 ev.addr, w2 := w32 t, w3 := ev.data }

/-- Write the capture record and FIRST where they are empty (R431). -/
def State.capture (s : State) (ev : FEvent) : State :=
  let c := captureOf ev s.now
  let s1 := if (s.src ev.src).captured then s
    else s.updSrc ev.src (fun f => { f with captured := true, cap := c })
  if s1.flt.firstSet then s1 else { s1 with flt := { s1.flt with first := c, firstSet := true } }

/-- Count one event in its window: the state after it and whether a severe transition is made
(R429, R430). -/
def State.countEvent (s : State) (ev : FEvent) : State × Bool :=
  let s0 := s.capture ev
  let i := ev.src
  let f := s0.src i
  let n := if s0.winOpen i then f.count + 1 else 1
  let sev := decide (s0.faultN i ≤ n)
  let f1 : FaultSrc := { f with total := satInc f.total 255 }
  let f2 : FaultSrc :=
    if sev then { f1 with count := 0, openAt := none, severe := true, setAt := some s.now, severeCnt := satInc f.severeCnt 255 }
    else { f1 with count := n, openAt := if s0.winOpen i then f.openAt else some s0.now }
  (s0.updSrc i (fun _ => f2), sev)

/-- The notification of a severe transition, and FLTN_HOLD (R441, R442). -/
def State.notifySevere (s : State) (i : Nat) : State :=
  let s1 := if s.faultReact i != 0 then s.updSrc i (fun f => { f with pend := true, pendSeq := s.evSeq, setAt := some s.now }) else s
  if s.fltnEn i then { s1 with flt := { s1.flt with fltnHold := true } } else s1

/-- A test in progress is answered as aborted (R437, R444). -/
def State.abortTest (s : State) : State :=
  { s with flt := { s.flt with test := s.flt.test.map (fun t => { t with aborted := true }) } }

/-- A recovery starts, or goes on with its quiet period restarted (R433, R435, R436). -/
def State.enterRecovery (s : State) (src : Nat) (block : Option Nat) : State :=
  let f := s.abortTest.flt
  let cont := f.st == .recovery
  { s with flt := { f with
      st := .recovery, quietFrom := s.now
      cause := if cont then f.cause else src
      scopeBlock := block.isSome && (!cont || f.scopeBlock)
      rblock := match block with | some b => (if cont && !f.scopeBlock then f.rblock else b) | none => f.rblock } }

/-- Reaction 2: declaration, revocation, the safe state, the non-maskable trap (R433). -/
def State.reactTrap (s : State) (ev : FEvent) : State :=
  let s1 := (s.enterRecovery ev.src none).declare (blamed ev)
  let s2 := s1.forceSafe
  { s2 with pwr := { s2.pwr with nmi := true } }

/-- Reaction 3: declaration, revocation, the block reset (R435). -/
def State.reactBlock (s : State) (ev : FEvent) : State :=
  match resetBlock ev.src with
  | none => s
  | some b => ((s.enterRecovery ev.src (some b)).declare (blamed ev)).blockReset b

/-- Reaction 4: the warm reset (R432). SYSCTL_RST_CAUSE.FAULT is bit 4. -/
def State.reactChip (s : State) (src : Nat) : State :=
  { s with flt := { s.flt with lastChip := src, test := none } }.warmReset 4

/-- Severe transitions of one edge, ascending by source: the highest reaction among them acts, and
reactions 2 and 3 act together (R436). Fixed sources take no reaction here (R432), and while the
collector is in START reactions 2 and 3 give only the notification (R437). -/
def State.react (s : State) (l : List FEvent) : State :=
  let act := l.filter (fun ev => (fixedReact ev.src).isNone)
  match act.find? (fun ev => s.faultReact ev.src == 4) with
  | some ev => s.reactChip ev.src
  | none =>
      if s.flt.st == .start then s
      else
        let s1 := (act.filter (fun ev => s.faultReact ev.src == 3)).foldl State.reactBlock s
        (act.filter (fun ev => s.faultReact ev.src == 2)).foldl State.reactTrap s1

/-- A qualifying event restarts the quiet period (R437). -/
def State.qualify (s : State) (ev : FEvent) : State :=
  if s.flt.st == .recovery && (s.faultReact ev.src == 2 || s.faultReact ev.src == 3) then
    { s with flt := { s.flt with quietFrom := s.now } }
  else s

/-- Events counted at one edge, in the order given (R428, R436). -/
def State.countEvents (s : State) (l : List FEvent) : State :=
  let r := l.foldl (fun (p : State × List FEvent) ev =>
    if srcReserved ev.src then p
    else
      let q := (p.1.qualify ev).countEvent ev
      if q.2 then (q.1.notifySevere ev.src, p.2 ++ [ev]) else (q.1, p.2)) (s, [])
  r.1.react r.2

/-- Events held until the first press tick (R485). -/
def State.holdEvents (s : State) (l : List FEvent) : State :=
  { s with flt := { s.flt with held := s.flt.held ++ l } }

/-- Events of ends of peaks made at this instant are counted, or held (R230, R485). -/
def State.countOwed (s : State) : State :=
  if s.flt.owed.isEmpty then s
  else
    let s0 := { s with flt := { s.flt with owed := [] } }
    if s.pwr.phase == .run && !s.pwr.woken then s0.countEvents s.flt.owed else s0.holdEvents s.flt.owed

/-- Fault events of one edge: held from the start of a reset until the first press tick of the
start-up that follows it, counted at once otherwise (R485). A reaction that ends a peak adds that end's event. -/
def State.faults (s : State) (l : List FEvent) : State :=
  if l.isEmpty then s
  else if s.pwr.phase == .run && !s.pwr.woken then (s.countEvents l).countOwed else s.holdEvents l

/-- One fault event without a bus access. -/
def State.fault (s : State) (src info : Nat) : State := s.faults [plainEvent src info]

/-- A fixed source whose own rule causes a warm reset: the event is held, then the reset made with its
SYSCTL_RST_CAUSE bit (R432, R485). -/
def State.faultReset (s : State) (src causeBit : Nat) (fatal : Bool) : State :=
  let s1 := s.holdEvents [plainEvent src 0]
  let s2 := if fatal then { s1 with flt := { s1.flt with lastChip := src, test := none } } else s1
  s2.warmReset causeBit

/-- The first press tick moves the collector and counts the held events in order (R437, R485). In the
fuse-failed state it stays in START. -/
def State.releaseHeld (s : State) : State :=
  let l := s.flt.held
  let s1 := { s with flt := { s.flt with held := [],
                                         st := if s.pwr.fuseFailed then .start else .normal, safe := s.pwr.fuseFailed } }
  l.foldl (fun t ev => if t.pwr.phase == .run then t.countEvents [ev] else t.holdEvents [ev]) s1

/-! ### Registers (R445) -/

/-- Milliseconds until RECOVERY can be left (FAULT_RECOV.QUIET_LEFT). -/
def State.quietLeft (s : State) : Nat :=
  if s.flt.st == .recovery then msLeft s.now (s.flt.quietFrom + s.cfg 0x400D0000 0 10 * 10000000) else 0

/-- FAULT_STAT. -/
def State.faultStat (s : State) : Word :=
  let st := match s.flt.st with | .start => 0 | .normal => 1 | .test => 2 | .recovery => 3
  w32 (st + place (b2n s.flt.safe) 2 1 + place (b2n s.flt.fltnHold) 3 1 +
       place (b2n s.flt.scopeBlock) 4 1 + place s.flt.rblock 8 5 + place s.flt.declared 16 6 +
       place s.flt.cause 24 8)
/-- FAULT_RECOV. -/
def State.faultRecov (s : State) : Word := w32 (place s.flt.recoveries 0 16 + place s.quietLeft 16 14)
/-- FAULT_SEVEREi. -/
def State.faultSevere (s : State) (i : Nat) : Word :=
  w32 (listMask ((List.range 32).filter (fun k => (s.src (32 * i + k)).severe)))
/-- FAULT_PENDi. -/
def State.faultPend (s : State) (i : Nat) : Word :=
  w32 (listMask ((List.range 32).filter (fun k => (s.src (32 * i + k)).pend)))
/-- FAULT_SRC_STAT(i). -/
def State.srcStat (s : State) (i : Nat) : Word :=
  let f := s.src i
  w32 (place (if s.winOpen i then f.count else 0) 0 8 + place f.total 8 8 + place f.severeCnt 16 8 +
       place (b2n f.captured) 24 1)
/-- Words 0-3 of a capture record. -/
def capWords (c : Capture) : List Word := [c.w0, c.w1, c.w2, c.w3]
/-- The collector forces HIRQN while a notification is pending (R442). -/
def State.anyPend (s : State) : Bool := (List.range 96).any (fun i => (s.src i).pend)
/-- Start-up has not reached its first press tick, after power-on, a reset or a wake (R50, R441). -/
def State.startingUp (s : State) : Bool :=
  match s.pwr.phase with
  | .run => s.pwr.woken
  | .park => false
  | .off | .cellar | .startup => true
/-- FLTN is driven low (R441); without VIO it is not driven (R51). -/
def State.fltnLow (s : State) : Bool :=
  s.supply.vioOk && (s.pwr.rstnLow || s.startingUp || s.pwr.fuseFailed || s.flt.fltnHold)

end Sys2Proof.Machine
end

