-- ==== Sys2Proof/Machine/Link.lean ====
section
/-! DEFINITION. HOSTLINK: CRC-32 (R123), queue places and charges (R25, R113, R143), posting and
holding of replies (R26, R127, R128, R486), flow control (R131), the status word (R121), valid
traffic and the loss monitor (R134, R135), and its registers (R139). -/

namespace Sys2Proof.Machine

/-! ### CRC-32 (R123) -/

/-- One bit of the reflected CRC of polynomial 0x04C11DB7. -/
def crcBit (c : Word) : Word :=
  if c.getLsbD 0 then (c >>> 1) ^^^ 0xEDB88320 else c >>> 1
/-- One byte into the running CRC register. -/
def crcByte (c : Word) (b : Nat) : Word :=
  let x := c ^^^ w32 (b % 256)
  crcBit (crcBit (crcBit (crcBit (crcBit (crcBit (crcBit (crcBit x)))))))
/-- One word into the running CRC register, most significant byte first. -/
def crcWord (c : Word) (w : Word) : Word :=
  crcByte (crcByte (crcByte (crcByte c (bits w 24 8)) (bits w 16 8)) (bits w 8 8)) (bits w 0 8)
/-- CRC-32 of a list of words. -/
def crc32 (l : List Word) : Word := (l.foldl crcWord 0xFFFFFFFF) ^^^ 0xFFFFFFFF

/-! ### Packets and replies -/

/-- Words of a reply as shifted out (R127). -/
def replyWords (r : Reply) : List Word :=
  let h := [w32 (place 0xA5 24 8 + place r.seq 16 8 + place r.op 8 8 + place r.payload.length 0 8),
            w32 (place r.node 16 16 + place r.status 8 8 + place r.flags 0 8)] ++ r.payload
  h ++ [crc32 h]
/-- Words that a reply takes in the reply buffer. -/
def replyLen (r : Reply) : Nat := r.payload.length + 3
/-- Bytes of reply words in the reply buffer. -/
def Link.bytes (l : Link) : Nat := l.replies.foldl (fun a r => a + 4 * replyLen r) 0
/-- The reply queue has an entry and room for the words of a reply (R128). -/
def Link.fits (l : Link) (r : Reply) : Bool :=
  decide (l.replies.length < 64) && decide (l.bytes + 4 * replyLen r ≤ 12288)

/-- What posting a reply clears (R486): bits that the reply reports and that no later event has set
again. -/
def State.clearReported (s : State) (r : Reply) : State :=
  let s1 := s.forEach (maskList r.clrIn 64) (fun t n => t.updPort n (fun p =>
    if p.cmdSeq ≤ r.taken then { p with cmdLatch := false } else p))
  let s2 := s1.forEach (maskList r.clrField 16) (fun t n => t.updFio n (fun p =>
    if p.cmdSeq ≤ r.taken then { p with cmdLatch := false } else p))
  s2.forEach (maskList r.clrPend 96) (fun t n => t.updSrc n (fun p =>
    if p.pendSeq ≤ r.taken then { p with pend := false } else p))

/-- The reply enters the reply queue: EVENT is set where a notification is pending (R141). -/
def State.enqueue (s : State) (r : Reply) : State :=
  let r1 := { r with flags := r.flags ||| (b2n s.anyPend <<< 5) }
  { s with link := { s.link with replies := s.link.replies ++ [r1] } }.clearReported r

/-- Post a reply, or hold it where the queue or its buffer is full or earlier replies are held (R26). -/
def State.post (s : State) (r : Reply) : State :=
  let r1 := { r with num := s.link.nextNum, taken := s.evSeq }
  let s1 := { s with evSeq := s.evSeq + 1, link := { s.link with nextNum := s.link.nextNum + 1 } }
  if s1.link.held.isEmpty && s1.link.fits r1 then s1.enqueue r1
  else { s1 with link := { s1.link with held := s1.link.held ++ [r1] } }

/-- Held replies move into the queue in order while they fit (R26, R133). -/
def State.moveHeld (s : State) : State :=
  s.link.held.foldl (fun t r =>
    if (t.link.held.head? == some r) && t.link.fits r then
      { t with link := { t.link with held := t.link.held.tail } }.enqueue r
    else t) s

/-- FRAME_CMD_ERR and FRAME_CMD_ERR2 count a command by the status it is answered (R169). -/
def countStatus (e : Eng) (status : Nat) : Eng :=
  match status with
  | 0x12 => { e with cntOpcode := satInc e.cntOpcode 255 }
  | 0x13 => { e with cntNode := satInc e.cntNode 255 }
  | 0x23 => { e with cntAbsent := satInc e.cntAbsent 255 }
  | 0x14 => { e with cntParam := satInc e.cntParam 255 }
  | 0x21 => { e with cntNotPermitted := satInc e.cntNotPermitted 255 }
  | 0x22 => { e with cntThermal := satInc e.cntThermal 255 }
  | 0x20 => { e with cntVat := satInc e.cntVat 255 }
  | 0x31 => { e with cntDeferred := satInc e.cntDeferred 255 }
  | _ => e

/-- What executing a command gives back: its status, reply flags but FINAL and EVENT, payload from
word 2 on, units acted on and lost, set-points written and what posting clears. -/
structure Out where
  status : Nat := 0
  cask : Bool := false
  /-- CANCELLED of R141. -/
  cancelled : Bool := false
  words : List Word := []
  /-- Frame on which the reply reports, where it is not the present one (R142). -/
  tick : Option Nat := none
  acted : Nat := 0
  lost : Nat := 0
  /-- Unit, kind of set-point, left pending. -/
  sets : List (Nat × Nat × Bool) := []
  clrIn : Nat := 0
  clrField : Nat := 0
  clrPend : Nat := 0
  deriving DecidableEq, Repr, Inhabited

/-- An outcome with a status and no payload after word 2. -/
def outStatus (st : Nat) : Out := { (default : Out) with status := st }
/-- An OK outcome with payload words after word 2. -/
def outWords (l : List Word) : Out := { (default : Out) with words := l }

/-- Earlier host commands of the racking whose set-point this command replaces carry SUPERSEDED
(R141, R158). Which set-points an opcode writes is R174's for load channels; a valve and a field output have one
each, so that any two opcodes on one replace each other there (DEDUCED, log 103). -/
def State.supersede (s : State) (o : Out) : State :=
  let nums := (s.eng.rackSets.filter (fun r =>
    r.byHost && o.sets.any (fun x => x.1 == r.node && x.2.1 == r.kind))).map (·.reply)
  let f := fun (r : Reply) => if nums.contains r.num then { r with flags := r.flags ||| 8 } else r
  { s with link := { s.link with replies := s.link.replies.map f, held := s.link.held.map f } }

/-- The reply of a command that reached execution: word 2 is the frame it reports on (R142). -/
def State.respond (s : State) (op : Nat) (c : HostCmd) (o : Out) (final : Bool) : State :=
  let partial_ := decide (0 < o.acted) && decide (0 < o.lost)
  let fl := b2n final + 2 * b2n o.cask + 4 * b2n partial_ + 16 * b2n o.cancelled
  let num := s.link.nextNum
  let s1 := s.supersede o
  let s2 := { s1 with eng := { countStatus s1.eng o.status with
    rackSets := s1.eng.rackSets ++ o.sets.map (fun (x : Nat × Nat × Bool) => ({ node := x.1, kind := x.2.1, byHost := true, reply := num, pend := x.2.2 } : RackSet)) } }
  s2.post { num := 0, seq := c.seq, op := op, node := c.node, status := o.status, flags := fl,
            payload := w32 (o.tick.getD s.clk.tickCount) :: o.words, taken := 0,
            clrIn := o.clrIn, clrField := o.clrField, clrPend := o.clrPend }

/-- The reply of a packet refused at arrival has no payload (R127). -/
def State.refuse (s : State) (op : Nat) (c : HostCmd) (status : Nat) : State :=
  { s with eng := countStatus s.eng status }.post
    { num := 0, seq := c.seq, op := op, node := c.node, status := status, flags := 0, payload := [],
      taken := 0, clrIn := 0, clrField := 0, clrPend := 0 }

/-! ### Queues (R24, R25, R143) -/

/-- A packet sent now enters the queue of the racking after the next (R24, R126). -/
def State.lateInFrame (s : State) : Bool := decide (s.period ≤ 10 * s.clk.phase + 4000)
/-- LATER of a packet. -/
def cLater (c : HostCmd) : Nat := c.flags % 256
/-- OPT of a packet. -/
def cOpt (c : HostCmd) : Nat := c.flags / 4096 % 16

/-- Commands that hold a place in the queue of the next racking, or of the one after it, deferred
commands included (R143). -/
def Eng.places (e : Eng) (after : Bool) : List QCmd :=
  let q := if after then e.qAfter else e.qNext
  let d := (e.deferred.filter (fun d => d.left == (if after then 2 else 1))).map (·.cmd)
  let a := if after then (e.qNext.filter (fun x => x.ack && cLater x.cmd == 1)).map (fun x => { x with ack := false }) else []
  q ++ d ++ a
/-- Sum of charges of a list of commands; a place that only acknowledges counts 1 (R113). -/
def sumCharge (l : List QCmd) : Nat := l.foldl (fun a q => a + if q.ack then 1 else q.charge) 0
/-- The queue accepts a command of this charge (R25). -/
def Eng.room (e : Eng) (after : Bool) (charge : Nat) : Bool :=
  decide ((e.places after).length < 128) && decide (sumCharge (e.places after) + charge ≤ 17920)
/-- Entries of the deferral store in use, those of packets still waiting for their acknowledgement
included (R143). -/
def Eng.deferUsed (e : Eng) : Nat :=
  e.deferred.length + ((e.qNext ++ e.qAfter).filter (·.ack)).length
/-- A command joins a queue. -/
def Eng.push (e : Eng) (after : Bool) (q : QCmd) : Eng :=
  if after then { e with qAfter := e.qAfter ++ [q] } else { e with qNext := e.qNext ++ [q] }

/-- At most 16 commands answered at a later racking are outstanding (R144). -/
def Eng.outstRoom (e : Eng) : Bool := decide (e.outst.length < 16)
/-- Start a command that is answered at a later racking. -/
def State.addOutst (s : State) (op : Nat) (c : HostCmd) (w : WaitFor) : State :=
  { s with eng := { s.eng with
      outst := s.eng.outst ++ [⟨s.eng.nextTicket, op, c, s.clk.tickCount, w, none⟩]
      nextTicket := s.eng.nextTicket + 1 } }

/-! ### Flow control -/

/-- An entry to Park or Cellar has passed its ask step. -/
def State.pastAsk (s : State) : Bool :=
  match s.pwr.entry with | some e => decide (2 ≤ e.step) | none => false
/-- Bytes of the 20 KiB receive buffer that packets waiting for their racking take (R131, log 5). -/
def Eng.rxUsed (e : Eng) : Nat :=
  (e.rackHost ++ e.qNext ++ e.qAfter).foldl (fun a q => a + if q.slot.isNone then 4 * (3 + q.cmd.payload.length) else 0) 0
/-- Free bytes of the receive buffer (R139). -/
def State.rxFree (s : State) : Nat := 20480 - s.eng.rxUsed
/-- HRDYN is low (R131): Run before the ask step has passed, a place and room for a charge of 140, room for
a packet of 258 words, and no reply held. -/
def State.hrdyLow (s : State) : Bool :=
  s.inRun && !s.pwr.woken && !s.pastAsk && !s.pwr.resumeDue && s.supply.vioOk &&
  s.eng.room s.lateInFrame 140 && decide (1032 ≤ s.rxFree) && s.link.held.isEmpty
/-- The balls of HOSTLINK are released: RSTN is high, the boot ROM has run, and VIO is present (R50, R51). -/
def State.ballsLive (s : State) : Bool :=
  !s.pwr.rstnLow && s.supply.vioOk &&
  (match s.pwr.phase with | .run | .park => true | .startup => s.pwr.booted | _ => false)
/-- HIRQN is low (R130). -/
def State.hirqLow (s : State) : Bool := s.ballsLive && (!s.link.replies.isEmpty || s.anyPend)
/-- Free places of the queue that a packet sent now would enter. -/
def State.slots (s : State) : Nat := 128 - (s.eng.places s.lateInFrame).length
/-- The link status word (R121). -/
def State.statusWord (s : State) : Word :=
  w32 (place 0xA 28 4 + place (b2n s.hrdyLow) 27 1 + place (b2n s.link.lost) 26 1 +
       place (b2n s.anyPend) 25 1 + place (b2n s.link.fresh) 24 1 +
       place s.link.replies.length 16 8 + place s.slots 8 8 +
       place (if s.link.fresh then 0 else s.link.expect) 0 8)

/-! ### The loss monitor -/

def lossCfg : Nat := 0x40020014
/-- The monitor is enabled (R135). -/
def State.lossEnabled (s : State) : Bool := s.cfg lossCfg 0 10 != 0 || s.cfg lossCfg 12 4 != 0
/-- Monitor state as it stands now: Disarmed while disabled. -/
def State.lossNow (s : State) : Nat := if s.lossEnabled then s.link.lossState else 0
/-- SILENT in ms. -/
def State.silent (s : State) : Nat :=
  if s.link.silentFrom = 0 then 0 else min 1023 ((s.now - s.link.silentFrom) / 1000000)

/-- Valid traffic (R134, R135). -/
def State.validTraffic (s : State) : State :=
  let st := if !s.lossEnabled then 0
    else if s.link.lossState = 0 then (if s.pastAsk then 0 else 1) else 1
  { s with link := { s.link with silentFrom := s.now, lastTb0 := s.now % 2 ^ 32, errRun := 0,
                                 lossState := st } }
/-- An error transaction lengthens the run (R135). -/
def State.errorTransaction (s : State) : State :=
  { s with link := { s.link with errRun := s.link.errRun + 1 } }

/-- Loss cause that holds at step 1 of a frame, 0 none (R135). -/
def State.lossCause (s : State) : Nat :=
  if s.lossNow != 1 then 0
  else if s.cfg lossCfg 0 10 != 0 && decide (s.cfg lossCfg 0 10 ≤ s.silent) then 1
  else if s.cfg lossCfg 12 4 != 0 && decide (s.cfg lossCfg 12 4 ≤ s.link.errRun) then 2
  else if s.link.vioLost then 3
  else 0

/-- The transition to Lost: LOST, LOSS_COUNT, HOST_LOSS, and a running hold lease ends (R136, R138). -/
def State.enterLost (s : State) (cause : Nat) : State :=
  let s1 := { s with link := { s.link with lossState := 2, lost := true, lostAt := some s.now, lossCause := cause,
                                           lossCount := satInc s.link.lossCount 255 } }
  let s2 := if s1.pwr.holdState = 1 then s1.endLease else s1
  s2.faults [plainEvent 0x13 cause]

/-- The loss actions of the racking (R136). -/
def State.lossActions (s : State) : State :=
  let a := s.cfg lossCfg 16 2
  let s1 := if a = 0 then s else s.forEach s.loads (fun t n =>
    if (s.ch n).keeper.held then t
    else t.updLoad n (fun ch => { ch with lossHeld := true, lossLevel := s.limpState n }))
  if a = 2 then
    let s2 := s1.forEach s1.valves State.releaseValve
    ({ s2 with valve := { s2.valve with queue := [] } }.countOwed).fieldOff
  else s1

/-! ### Registers -/

/-- HOSTLINK registers (R139): none for an offset with no register. -/
def State.readLink (s : State) (off : Nat) : Option Word :=
  match off with
  | 0x00 => some (w32 (b2n s.hrdyLow + 2 * b2n s.hirqLow + 4 * b2n s.link.fresh + 8 * b2n s.link.mode3 +
      16 * b2n s.anyPend + place (if s.link.fresh then 0 else s.link.expect) 8 8 + place s.link.lastSeq 16 8))
  | 0x04 => some (w32 (place (s.eng.places s.lateInFrame).length 0 8 + place s.link.replies.length 8 7 +
      place s.link.held.length 16 9))
  | 0x08 => some (w32 (place s.rxFree 0 15 + place (12288 - s.link.bytes) 16 14))
  | 0x0C => some (w32 (place s.link.errCrc 0 8 + place s.link.errSeq 8 8 + place s.link.errFraming 16 8 +
      place s.link.errOverrun 24 8))
  | 0x10 => some (w32 (place s.link.errBusy 0 8 + place s.link.reread 8 8 + place s.link.idleAbort 16 8))
  | 0x14 => some (s.stored lossCfg)
  | 0x18 => some (w32 (s.lossNow + 4 * b2n s.link.lost + place s.link.lossCause 3 2 +
      place s.link.lossCount 8 8 + place s.silent 16 10))
  | 0x1C => some (w32 s.link.lastTb0)
  | _ => none

end Sys2Proof.Machine
end

