-- ==== Sys2Proof/Machine/Operands.lean ====
section
/-! DEFINITION. Operand forms of a command: payload words and their fields, the request flags
(R140), target nodes and casks (R22, R23, R150-R153), and the unit set of a command (R152). -/

namespace Sys2Proof.Machine

/-! ### Payload -/

/-- Payload word i of the packet layout, i ≥ 2 (R122); 0 past the end. -/
def pw (c : HostCmd) (i : Nat) : Word := c.payload[i - 2]?.getD 0
/-- Field of payload word i. -/
def pf (c : HostCmd) (i lo width : Nat) : Nat := bits (pw c i) lo width
/-- One-bit field of payload word i. -/
def pb (c : HostCmd) (i n : Nat) : Bool := bit (pw c i) n
/-- Payload length L. -/
def pl (c : HostCmd) : Nat := c.payload.length
/-- OPT bit n. -/
def optBit (c : HostCmd) (n : Nat) : Bool := (cOpt c).testBit n
/-- A signed field. -/
def sfield (w : Word) (lo width : Nat) : Int :=
  let v := bits w lo width
  if v < 2 ^ (width - 1) then (v : Int) else (v : Int) - 2 ^ width
/-- Split words into bytes, least significant first, cut to n bytes. -/
def wordBytes (l : List Word) (n : Nat) : List Byte :=
  (l.flatMap (fun w => [byteOf w 0, byteOf w 1, byteOf w 2, byteOf w 3])).take n
/-- Pack bytes into words, least significant byte first. -/
def packBytes : List Byte → List Word
  | [] => []
  | [a] => [ofBytes a 0 0 0]
  | [a, b] => [ofBytes a b 0 0]
  | [a, b, c] => [ofBytes a b c 0]
  | a :: b :: c :: d :: r => ofBytes a b c d :: packBytes r

/-! ### Casks -/

/-- Direct members of a cask in a table, none where the cask is not defined. -/
def caskMembers (t : List (Nat × List Nat)) (id : Nat) : Option (List Nat) := kvGet t id

/-- Units that a node reaches, ascending, each once, walking at most `fuel` levels (R152). -/
def reach (t : List (Nat × List Nat)) : Nat → Nat → List Nat
  | 0, _ => []
  | fuel + 1, id =>
      if isUnit id then [id]
      else match caskMembers t id with
        | some ms => ms.foldl (fun a m => (reach t fuel m).foldl (fun b u => insertAsc u b) a) []
        | none => []

/-- Depth of a cask tree is at most 8, so 9 levels reach every unit (R150). -/
def reachLive (s : State) (id : Nat) : List Nat := reach s.live.casks 9 id

/-- Opcodes that the table allows on casks (R146). -/
def caskOpcode (op : Nat) : Bool :=
  op == 0 || op == 1 || op == 4 || (0x18 ≤ op && op ≤ 0x1A) || (0x20 ≤ op && op ≤ 0x24) ||
  (0x28 ≤ op && op ≤ 0x2A) || (0x30 ≤ op && op ≤ 0x33) || op == 0x38 || op == 0x39 ||
  op == 0x64 || op == 0x7A

/-- Opcodes for which a cask need not be judged by its units: the node takes the command itself, or
every cask accepts it (R153). -/
def caskFree (op : Nat) : Bool := op == 0 || op == 1 || op == 4 || op == 0x1A || op == 0x31 || op == 0x7A

/-- Every unit of the set accepts the opcode (R153). -/
def unitsAccept (op : Nat) (us : List Nat) : Bool :=
  us.all (fun u => match nodeKind u with | some k => opcodeTarget op k | none => false)

/-- CASK_LIST lists the vat's table (R151). -/
def listsVat (op : Nat) (c : HostCmd) : Bool := op == 0x1A && optBit c 0

/-- Rows 2-4 of R23: none where the target is accepted. -/
def State.targetCheck (s : State) (op : Nat) (c : HostCmd) : Option Nat :=
  match nodeKind c.node with
  | none => some 0x13
  | some .root => if opcodeTarget op .root then none else some 0x13
  | some .cask =>
      if op = 0x18 ∨ op = 0x19 ∨ listsVat op c then none
      else if s.pwr.fuseFailed ∨ (caskMembers s.live.casks c.node).isNone then some 0x13
      else if !caskOpcode op then some 0x13
      else if caskFree op ∨ unitsAccept op (reachLive s c.node) then none else some 0x13
  | some k =>
      if !s.pwr.fuseFailed && !unitPresent s.var c.node then some 0x23
      else if opcodeTarget op k then none else some 0x13

/-- Stage 1 of R160: the target is still valid at execution (R153). -/
def State.targetStands (s : State) (op : Nat) (c : HostCmd) : Bool :=
  match nodeKind c.node with
  | some .cask =>
      op == 0x18 || op == 0x19 || listsVat op c ||
      ((caskMembers s.live.casks c.node).isSome && (caskFree op || unitsAccept op (reachLive s c.node)))
  | _ => true

/-- Units that the target reaches (R152). -/
def State.unitSet (s : State) (node : Nat) : List Nat :=
  if node = 0 then s.units else reachLive s node

/-- The target is a cask or the root, so the payload carries an aggregate (R141). -/
def isGroup (node : Nat) : Bool :=
  match nodeKind node with | some .root | some .cask => true | _ => false

/-- An opcode whose subsystem the variant lacks (R34). -/
def State.opcodeAbsent (s : State) (op : Nat) : Bool :=
  ((0x58 ≤ op && op ≤ 0x5D) && !hasAccess s.var) ||
  ((op == 0x38 || op == 0x39) && !hasField s.var) ||
  ((0x28 ≤ op && op ≤ 0x2A) && !hasBoost s.var) ||
  ((op == 0x48 || op == 0x4A || op == 0x4C || op == 0x4D) && !hasNet s.var)

end Sys2Proof.Machine
end

