-- ==== Sys2Proof/Machine/Therm.lean ====
section
/-! DEFINITION. THERM: clusters (R205), unit powers (R206, R247), the model update (R207), sensors
(R209), the prediction (R208) and admission (R211, R213), the steady-state check (R214), and its
registers (R220). Temperatures are in 1e-6 K, powers in 1e-6 W. -/

namespace Sys2Proof.Machine

/-! ### Clusters (R205): units 0-47 LC, 48-55 VL, 56-59 VB, 60 the boost converter -/

/-- Cluster of a load channel, valve or bank by unit index. -/
def clusterOf (u : Nat) : Nat :=
  if u < 12 then u / 3
  else if u < 30 then 4 + (u - 12) / 3
  else if u < 48 then 10 + (u - 30) / 3
  else if u < 56 then (u - 48) / 2
  else u - 56
/-- Units of a cluster; the boost converter counts half in clusters 1 and 2. -/
def clusterUnits (c : Nat) : List Nat := (List.range 60).filter (fun u => clusterOf u == c)
/-- Clusters adjacent to c. -/
def adjacent (c : Nat) : List Nat :=
  match c with
  | 0 => [1, 4] | 1 => [0, 4] | 2 => [3, 10] | 3 => [2, 10]
  | 4 => [0, 1, 5] | 9 => [8] | 10 => [2, 3, 11] | 15 => [14]
  | _ => [c - 1, c + 1]
/-- R_F in 0.01 K/W and τ_F in ms. -/
def rFast (c : Nat) : Nat := if c < 4 then 200 else 600
def tauFast (c : Nat) : Nat := if c < 4 then 50 else 30
/-- R_F of a unit: valve units use the class H parameters. -/
def unitClass (u : Nat) : Nat := if u < 48 then clusterOf u else 0
def clCfg (c : Nat) : Nat := 0x400F0100 + 4 * c
/-- Ceiling in 1e-6 °C. -/
def ceilingOf (w : Word) : Int := (bits w 0 8 : Nat) * 1000000

/-! ### Exponentials -/

/-- Powers of ten of the fixed-point exponential. -/
def expOne : Nat := 10 ^ 15
/-- Taylor series of e^(−y) with y in units of 1e-15, n terms from term k. -/
def expTaylor : Nat → Nat → Int → Int → Int → Int
  | 0, _, _, _, acc => acc
  | n + 1, k, y, term, acc =>
      let t := -(term * y) / ((k : Int) * (expOne : Int))
      expTaylor n (k + 1) y t (acc + t)
/-- Square n times. -/
def squares : Nat → Int → Int
  | 0, v => v
  | n + 1, v => squares n (v * v / (expOne : Int))
/-- 1 − e^(−num/den) in units of 1e-15 (log 6). -/
def decayFrac (num den : Nat) : Int :=
  if den = 0 ∨ 40 * den ≤ num then (expOne : Int)
  else (expOne : Int) - squares 8 (expTaylor 10 1 ((num * expOne / den / 256 : Nat) : Int) expOne expOne)

/-! ### Unit powers (R206, R247) -/

/-- Measured conduction current of channel n in the frame before (I_u). -/
def State.unitCurrent (s : State) (n loadCfg : Nat) (wasOn : Bool) : Nat :=
  let meas := (s.ch n).diag.ioutOn
  if loadCfg != 0 then (if wasOn then max loadCfg meas else loadCfg)
  else if wasOn then meas else if classH n then 8000 else 2500

/-- D_u of a set-point. -/
def dutyCount (sp : SetPt) : Nat :=
  match sp.mode with
  | .off => 0
  | .on | .pin | .ramp | .wait => 4095
  | .pwm => sp.duty
  | .pulse => if sp.train.pol then 4095 else min 4095 (4095 * sp.train.count * sp.train.width / 100000)

/-- Power of channel n under a set-point, with its clamp term in µW. `cfgw` and `loadw` are the
LOADSW_CH_CFG and LOADSW_CH_LOAD values and `fmax` the pin limit that count. -/
def State.loadPower (s : State) (n : Nat) (sp : SetPt) (wasOn : Bool) (clamp : Nat)
    (cfgw loadw : Word) (fmax : Nat) : Nat :=
  let i := s.unitCurrent n (bits loadw 0 16) wasOn
  let cond := i * i * (s.ch n).rModel * dutyCount sp / (4095 * 10000)
  let f := match sp.mode with | .pwm | .ramp => sp.freq | .pin => fmax | _ => 0
  let v := s.supply.vbatMv
  let sw := f * v * v * i / (500000000 * 2 ^ bits cfgw 5 2)
  cond + sw + clamp

/-- Clamp power of channel n: the clamp energy of frame k − 1, as step 2 took it, over P (R186, R206). -/
def State.clampPower (s : State) (n : Nat) : Nat := (s.ch n).clampPrev * 1000000000 / s.period
/-- Step 2 takes the clamp energy of the frame that ended: that of the DEMAGs that ended in it, and what the tick brings
of every other turn-off, by a protection or an off-edge of PWM, PIN and PULSE included. -/
def State.takeClamp (s : State) (l : List Nat) : State :=
  s.forEach s.loads (fun t n => t.updLoad n (fun ch => { ch with clampPrev := ch.clampUj + l[n]?.getD 0, clampUj := 0 }))

/-- The clamp of a mode recurs, so it is kept in prediction. -/
def clampRecurs (m : DriveMode) : Bool := match m with | .pwm | .pin | .pulse => true | _ => false

/-- The set-point that enters the prediction for channel n (R208). -/
def State.predSet (s : State) (n : Nat) : SetPt :=
  let ch := s.ch n
  let off := { ch.sh with mode := .off }
  if ch.locked || ch.segFail then off
  else if ch.thermLatch || ch.ocLatch then commanded ch
  else if s.pwr.limpActive || s.pwr.limpRel || ch.safeHeld || ch.lossHeld || ch.keeper.held then
    (if s.gate n then { ch.sh with mode := .on } else off)
  else commanded ch

/-- Predicted power of channel n with the registers in service (R208). -/
def State.loadPred (s : State) (n : Nat) : Nat :=
  let sp := s.predSet n
  s.loadPower n sp (s.ch n).onPrev (if clampRecurs sp.mode then s.clampPower n else 0)
    (s.reg (lcBase n)) (s.reg (lcLoad n)) (s.cfg (pwmCfg (s.cfg (lcBase n) 2 3)) 0 13)

/-! Valves -/

/-- A valve's course over the horizon: peak left, total time left (none: no end), hold current, a drop
in progress. -/
structure Course where
  tp : Nat
  total : Option Nat
  ih : Nat
  drop : Bool
  deriving DecidableEq, Repr, Inhabited

/-- Course of the state the valve is in. -/
def State.courseNow (s : State) (n : Nat) : Option Course :=
  let v := s.vl n
  let left := if v.duration = 0 then none else some (v.durAt + v.duration * 100000 - s.now)
  match v.st with
  | .off | .release => none
  | .defer => some ⟨s.peakNs n, if v.keepOrigin then left else if v.duration = 0 then none else some (v.duration * 100000),
      s.iHold n, false⟩
  | .peak => some ⟨v.peakAt + s.peakNs n - s.now, left, s.iHold n, false⟩
  | .drop => some ⟨0, left, s.iHold n, true⟩
  | .hold => some ⟨0, left, s.iHold n, false⟩

/-- Course after a command (R232): a valve that was OFF, or comes from its RELEASE, holds at I_HOLD. -/
def State.courseCmd (s : State) (n : Nat) (c : Option Course) (cmd : VCmd) : Option Course :=
  let v := s.vl n
  let st := v.st
  match cmd with
  | .release => none
  | .fire d =>
      let t := if d = 0 then none else some (d * 100000)
      match st, c with
      | .peak, some k | .drop, some k =>
          some { k with total := if d = 0 then none else some (v.origin + d * 100000 - s.now) }
      | .defer, some k =>
          some ⟨s.peakNs n, if v.keepOrigin && d != 0 then some (v.durAt + d * 100000 - s.now) else t, k.ih, false⟩
      | _, some k => some ⟨s.peakNs n, t, k.ih, false⟩
      | _, none => some ⟨s.peakNs n, t, s.iHoldCfg n, false⟩
  | .hold d o =>
      let t := if d = 0 then none else some (d * 100000)
      let ih := if o != 0 then o else s.iHoldCfg n
      match st, c with
      | .peak, some k | .drop, some k => some { k with total := t, ih := ih }
      | _, _ => some ⟨0, t, ih, false⟩

/-- Course with pending and shadow commands applied. -/
def State.course (s : State) (n : Nat) : Option Course :=
  let v := s.vl n
  let c0 := match v.pend with | some p => s.courseCmd n (s.courseNow n) p | none => s.courseNow n
  v.todo.foldl (s.courseCmd n) c0

/-- I²t of a valve over the horizon in mA²·ns, and its charge through DRn in mA·ns (R247). -/
def State.valveLoad (s : State) (n : Nat) : Nat × Nat :=
  match s.course n with
  | none => (0, 0)
  | some c =>
      let sec := 1000000000
      let tp := min (match c.total with | some t => min c.tp t | none => c.tp) sec
      let endAt := match c.total with | some t => min t sec | none => sec
      let th := endAt - tp
      let drop := c.drop || (decide (0 < tp) && decide (0 < th))
      let rel := match c.total with | some t => decide (t ≤ sec) | none => false
      (s.iPeak n * s.iPeak n * tp + c.ih * c.ih * th,
       (if drop then s.iPeak n * s.decayNs n else 0) + (if rel then c.ih * s.decayNs n else 0))

/-- Predicted power of unit u, 0 where it is absent (R205, R208). -/
def State.unitPred (s : State) (u : Nat) : Nat :=
  if u < 48 then (if hasLoad s.var u then s.loadPred u else 0)
  else if u < 56 then
    (if hasValve s.var (u - 48) then
      let r := s.valveLoad (u - 48)
      16 * r.1 / 100000000000 + r.2 / 1000000 else 0)
  else if u < 60 then
    (if hasBank s.var (u - 56) then
      12 * ((s.valveLoad (2 * (u - 56))).1 + (s.valveLoad (2 * (u - 56) + 1)).1) / 100000000000 else 0)
  else vget s.therm.pUnit 60

/-! ### Clusters -/

/-- Sum of unit powers in a cluster, with half the boost converter in clusters 1 and 2. -/
def clusterPower (pw : List Nat) (c : Nat) : Nat :=
  (clusterUnits c).foldl (fun a u => a + pw[u]?.getD 0) 0 +
  (if c = 1 ∨ c = 2 then pw[60]?.getD 0 / 2 else 0)
/-- Effective power of each cluster (R206). -/
def effPower (pcl : List Nat) (kAdj c : Nat) : Nat :=
  pcl[c]?.getD 0 + kAdj * ((adjacent c).foldl (fun a d => a + pcl[d]?.getD 0) 0) / 16
/-- Maximum of a list over 0 units: 0 where a cluster has no unit. -/
def maxInt (l : List Int) : Int := match l with | [] => 0 | a :: r => r.foldl max a
/-- Units whose fast state counts in a cluster. -/
def fastUnits (c : Nat) : List Nat := clusterUnits c ++ (if c = 1 ∨ c = 2 then [60] else [])
/-- Power of a unit as it heats a cluster: half of the boost converter. -/
def fastPower (pw : List Nat) (u : Nat) : Int :=
  (if u = 60 then pw[u]?.getD 0 / 2 else pw[u]?.getD 0 : Nat)

/-- T_pred of every cluster (R208). -/
def State.predict (s : State) : List Int :=
  let pw := (List.range 61).map s.unitPred
  let pcl := (List.range 16).map (clusterPower pw)
  let k := s.cfg 0x400F0000 8 4
  (List.range 16).map (fun c =>
    let rs : Int := s.cfg (clCfg c) 0 12
    let aS := decayFrac 100 (s.cfg (clCfg c) 16 12)
    let aF := fun u => decayFrac 1000 (tauFast (unitClass u))
    let cl := s.cl c
    let slow := (rs * effPower pcl k c / 100 - cl.deltaS) * aS / expOne
    let fast := maxInt ((fastUnits c).map (fun u =>
      let f := vget s.therm.fast u
      f + ((rFast (unitClass u) : Int) * fastPower pw u / 100 - f) * aF u / expOne))
    cl.theta + slow + fast)

/-- The lowest cluster for which the candidate is refused: its prediction is above the ceiling and
higher than without the candidate (R211). -/
def refusedAt (ceil : Int) (before after : List Int) : Option (Nat × Int) :=
  ((List.range 16).zip (before.zip after)).findSome? (fun p =>
    if ceil < p.2.2 && p.2.1 < p.2.2 then some (p.1, p.2.2) else none)

/-- Thermal admission of the change from s to t: none where it is admitted. -/
def State.admission (s t : State) : Option (Nat × Int) :=
  refusedAt (ceilingOf (s.reg 0x400F0000)) s.predict t.predict

/-- A temperature in 0.1 °C, to the nearest (log 15), as a 16-bit field. -/
def tenthField (t : Int) : Nat := (((t + 50000) / 100000) % 65536).toNat
/-- Record a refusal in THERM_REFUSE (R213). -/
def State.noteRefusal (s : State) (op seq node : Nat) (r : Nat × Int) (release : Bool) : State :=
  { s with therm := { s.therm with
      refuse0 := w32 (place node 0 16 + place seq 16 8 + place op 24 8)
      refuse1 := w32 (place r.1 0 4 + place (tenthField r.2) 16 16)
      refuse2 := w32 s.clk.tickCount
      refCmd := if release then s.therm.refCmd else satInc s.therm.refCmd 255
      refRel := if release then satInc s.therm.refRel 255 else s.therm.refRel } }

/-! ### Step 2 (R207, R209) -/

/-- Power of unit u in frame k − 1 (R206, R247). -/
def State.unitFrame (s : State) (m : TickIn) (u : Nat) : Nat :=
  if u < 48 then
    (if hasLoad s.var u then
      let ch := s.ch u
      let sp := if ch.onPrev then ch.drv else { ch.drv with mode := .off }
      s.loadPower u sp ch.onPrev (s.clampPower u) (s.reg (lcBase u)) (s.reg (lcLoad u))
        (s.cfg (pwmCfg (s.cfg (lcBase u) 2 3)) 0 13)
     else 0)
  else if u < 56 then
    (if hasValve s.var (u - 48) then
      let r := m.valveSq[u - 48]?.getD (0, 0)
      16 * r.1 / 100 + 1000 * r.2 else 0)
  else if u < 60 then
    (if hasBank s.var (u - 56) then
      let r := m.bankSq[u - 56]?.getD (0, 0)
      6 * r.1 / 100 + 1000 * r.2 else 0)
  else if hasBoost s.var then 1000 * m.boostMw else 0

/-- A sensor reading in 0.1 °C is outside its limits, or far from its valid neighbours (R209). -/
def State.sensorBad (s : State) (theta : List Int) (c : Nat) : Bool :=
  let t := theta[c]?.getD 0
  let nb := (adjacent c).filter (fun d => !(s.cl d).failed)
  let sum := nb.foldl (fun (a : Int) d => a + theta[d]?.getD 0) 0
  let n : Int := nb.length
  decide (t < -550) || decide (2000 < t) ||
  (!nb.isEmpty && (decide (400 * n < t * n - sum) || decide (400 * n < sum - t * n)))

/-- θ_c that the model takes: the reading, or the substitute of a failed sensor (R209). -/
def State.thetaOf (s : State) (theta : List Int) (c : Nat) : Int :=
  if (s.cl c).failed then
    match (adjacent c).filter (fun d => !(s.cl d).failed) with
    | [] => 150000000
    | d :: r => (r.foldl (fun a e => max a (theta[e]?.getD 0)) (theta[d]?.getD 0) + 100) * 100000
  else theta[c]?.getD 0 * 100000

/-- Sensor supervision of the tick: THERM_SENSOR for each sensor declared failed. -/
def State.sensors (s : State) (theta : List Int) : State :=
  let s1 := s.forEach (List.range 16) (fun t c => t.updCl c (fun cl =>
    let r := if s.sensorBad theta c then satInc cl.failRun 8 else 0
    { cl with failRun := r, failed := cl.failed || decide (8 ≤ r) }))
  let new := (List.range 16).filter (fun c => (s1.cl c).failed && !(s.cl c).failed)
  s1.faults (new.map (fun c => { plainEvent 0x20 c with data := BitVec.ofInt 32 (theta[c]?.getD 0) }))

/-- R_MODEL of channel n in 0.1 mΩ: the parallel combination of its active segments at 150 °C (R215). -/
def State.rModelOf (s : State) (n : Nat) : Nat :=
  let g := (List.range 10).foldl (fun a i =>
    let sg := vget (s.ch n).segs i
    if sg.code = 1 then
      a + (10 ^ 27 : Nat) / (Config.segBase n i * ((1000000000 : Int) + sg.drift).toNat) else a) 0
  let r := if g = 0 then 65535 else (10 ^ 18 * (if classH n then 17750 else 18625) + g * 50000) / (g * 100000)
  min r 65535

/-- The model update of step 2. -/
def State.thermStep (s : State) (m : TickIn) : State :=
  let s0 := (s.sensors m.theta).takeClamp m.clampUj
  let pw := (List.range 61).map (s0.unitFrame m)
  let pcl := (List.range 16).map (clusterPower pw)
  let k := s0.cfg 0x400F0000 8 4
  let p := s0.period
  let fast := (List.range 61).map (fun u =>
    let f := vget s0.therm.fast u
    f + ((rFast (unitClass u) : Int) * fastPower pw u / 100 - f) *
      decayFrac p (tauFast (unitClass u) * 1000000) / expOne)
  let ceil := ceilingOf (s0.reg 0x400F0000)
  let cls := (List.range 16).map (fun c =>
    let cl := s0.cl c
    let pe := effPower pcl k c
    let ds := cl.deltaS + ((s0.cfg (clCfg c) 0 12 : Int) * pe / 100 - cl.deltaS) *
      decayFrac p (s0.cfg (clCfg c) 16 12 * 10000000) / expOne
    let th := s0.thetaOf m.theta c
    let now := th + maxInt ((fastUnits c).map (fun u => fast[u]?.getD 0))
    { cl with deltaS := ds, theta := th, tNow := now, pEffMw := (pe + 500) / 1000,
              overFrom := if ceil < now then (if cl.overFrom.isSome then cl.overFrom else some s0.now) else none })
  let s1 := { s0 with therm := { s0.therm with
    cl := tab 16 (fun c => cls[c]?.getD default)
    fast := tab 61 (fun u => fast[u]?.getD 0)
    pUnit := tab 61 (fun u => pw[u]?.getD 0) } }
  s1.forEach s1.loads (fun t n => t.updLoad n (fun ch =>
    { ch with rModel := s1.rModelOf n, pUnitMw := min 65535 ((pw[n]?.getD 0 + 500) / 1000) }))

/-- Write T_pred with the set-points that the racking left (THERM_CL_PRED). -/
def State.storePred (s : State) : State :=
  let p := s.predict
  s.forEach (List.range 16) (fun t c => t.updCl c (fun cl => { cl with tPred := p[c]?.getD 0 }))

/-! ### The steady-state check (R214) -/

/-- T_ss of every cluster with the staged registers of an image, in 1e-6 °C. -/
def State.steady (s : State) (img : List (Nat × Word)) : List Int :=
  let pw := (List.range 61).map (fun u =>
    if u < 48 then
      (if hasLoad s.var u then
        let sp := s.predSet u
        let cw := stActs img (lcBase u)
        s.loadPower u sp (s.ch u).onPrev (if clampRecurs sp.mode then s.clampPower u else 0)
          cw (stActs img (lcLoad u)) (bits (s.reg (pwmCfg (bits cw 2 3))) 0 13)
       else 0)
    else s.unitPred u)
  let pcl := (List.range 16).map (clusterPower pw)
  let k := bits (stActs img 0x400F0000) 8 4
  (List.range 16).map (fun c =>
    let rs : Int := bits (stActs img (clCfg c)) 0 12
    (s.cl c).theta - (s.cl c).deltaS + rs * effPower pcl k c / 100 +
      maxInt ((fastUnits c).map (fun u => (rFast (unitClass u) : Int) * fastPower pw u / 100)))

/-- Clusters that fail the THERMAL check against the staged ceiling, with T_ss in 0.1 °C. -/
def State.thermalFails (s : State) (img : List (Nat × Word)) : List (Nat × Nat) :=
  let ceil := ceilingOf (stActs img 0x400F0000)
  ((List.range 16).zip (s.steady img)).filterMap (fun p =>
    if ceil < p.2 then some (p.1, tenthField p.2) else none)

/-! ### Registers (R220) -/

def State.readTherm (s : State) (off : Nat) : Option Word :=
  if off = 0 then some (s.stored 0x400F0000)
  else if off = 4 then
    let ts := (List.range 16).map (fun c => (s.cl c).tNow)
    let top := maxInt ts
    some (w32 (tenthField top + place (ts.findIdx (· == top)) 16 4 +
      place (b2n (ts.any (fun t => ceilingOf (s.reg 0x400F0000) < t))) 20 1))
  else if off = 8 then some (w32 (listMask ((List.range 16).filter (fun c => (s.cl c).failed))))
  else if off = 0x10 then some s.therm.refuse0
  else if off = 0x14 then some s.therm.refuse1
  else if off = 0x18 then some s.therm.refuse2
  else if off = 0x1C then some (w32 (place s.therm.refCmd 0 8 + place s.therm.refRel 8 8))
  else if off % 4 != 0 then none
  else
    let c := off / 4 % 16
    if 0x100 ≤ off ∧ off < 0x140 then some (s.stored (0x400F0000 + off))
    else if 0x140 ≤ off ∧ off < 0x180 then some (w32 (rFast c + place (tauFast c) 16 12))
    else if 0x180 ≤ off ∧ off < 0x1C0 then
      some (w32 (tenthField (s.cl c).theta + place (tenthField (s.cl c).tNow) 16 16))
    else if 0x1C0 ≤ off ∧ off < 0x200 then
      some (w32 (tenthField (s.cl c).tPred + place (min 65535 (s.cl c).pEffMw) 16 16))
    else if 0x200 ≤ off ∧ off < 0x240 then some (w32 ((((s.cl c).deltaS + 5000) / 10000) % 65536).toNat)
    else none

end Sys2Proof.Machine
end

