-- ==== Sys2Proof/Machine/Ladder.lean ====
section
/-! DEFINITION. The stages of R160 shared by every output-setting command: the ownership ladder on
each unit (R157-R159), thermal admission as a whole (R211, R213), and the outcome of the reply. -/

namespace Sys2Proof.Machine

/-- A command in execution: opcode, packet fields, and the applet slot that issued it, none for the
host. -/
structure Ctx where
  op : Nat
  cmd : HostCmd
  slot : Option Nat
  deriving DecidableEq, Repr, Inhabited

/-- A unit owned by rung 2, 3 or 4 (R158): limp, safe state or loss action, keeper. -/
def State.heldUnit (s : State) (u : Nat) : Bool :=
  match nodeKind u with
  | some .load =>
      let ch := s.ch (u - 0x0100)
      s.pwr.limpActive || s.pwr.limpRel || ch.safeHeld || ch.lossHeld || ch.keeper.held
  | some .valve | some .bank | some .fio => s.flt.safe
  | _ => false

/-- The precedence grant of slot i reaches the unit (R159). -/
def State.grantReaches (s : State) (i u : Nat) : Bool :=
  (s.slot i).st == .started && (s.slot i).grants.any (fun g => (reachLive s g).contains u)

/-- The slot that holds precedence on the unit: the lowest whose grant reaches it (R423). -/
def State.holder (s : State) (u : Nat) : Option Nat := (List.range 8).find? (fun i => s.grantReaches i u)

/-- The command loses on the unit (R158, R159, R423). -/
def State.losesOn (s : State) (x : Ctx) (u : Nat) : Bool :=
  s.heldUnit u ||
  (match s.holder u, x.slot with
   | some i, some j => i != j
   | some _, none => true
   | none, some _ => s.eng.hostNodes.contains u
   | none, none => false)

/-- A unit counts a THERMAL_BUDGET refusal (R213, R245). -/
def State.markRefused (s : State) (u : Nat) : State :=
  match nodeKind u with
  | some .load => s.updLoad (u - 0x0100) (fun ch =>
      { ch with refused := true, admitRefused := satInc ch.admitRefused 255 })
  | some .valve => s.updValve (u - 0x0200) (fun v => { v with refused := true })
  | _ => s

/-- The word of units acted on and lost (R158, R175). -/
def actedWord (acted lost : Nat) : Word := w32 (place acted 0 16 + place lost 16 16)

/-- Status of an output command: PENDING, else NOT_PERMITTED where a unit was lost, else OK (R158). -/
def outputStatus (pend : Bool) (lost : Nat) : Nat :=
  if pend then 0x02 else if lost = 0 then 0 else 0x21

/-- Stages 2 to 5 of R160 over a set of units: those that the command wins and can carry are changed by
`eff`, unless admission refuses the whole; `pend` tells a unit that the command leaves pending, `kinds`
the set-points that it writes. Only the units that a host command has acted on count as set by the host
in this racking (R158.3; DESIGN CHOICE, log 102). -/
def State.outputCommand (s : State) (x : Ctx) (carry : State → Nat → Bool)
    (eff : State → List Nat → State) (pend : State → Nat → Bool) (kinds : List Nat) : State × Out :=
  let us := s.unitSet x.cmd.node
  let won := us.filter (fun u => !s.losesOn x u && carry s u)
  let lost := us.length - won.length
  if won.isEmpty then (s, { outWords [actedWord 0 lost] with status := outputStatus false lost, lost := lost })
  else
    let t := eff s won
    match s.admission t with
    | some r =>
        let seq := if x.slot.isSome then 0 else x.cmd.seq
        ((s.forEach won State.markRefused).noteRefusal x.op seq x.cmd.node r false,
         { outWords [actedWord 0 lost] with status := 0x22, lost := lost })
    | none =>
        let isPend := fun u => pend t u
        let o : Out := { outWords [actedWord won.length lost] with
          status := outputStatus (won.any isPend) lost, acted := won.length, lost := lost,
          sets := won.flatMap (fun u => kinds.map (fun k => (u, k, isPend u))) }
        let t1 := if x.slot.isNone then { t with eng := { t.eng with hostNodes := t.eng.hostNodes ++ won } } else t
        (t1, o)

end Sys2Proof.Machine
end

