-- ==== Sys2Proof/Machine/Load.lean ====
section
/-! DEFINITION. LOADSW: SET_OUT, SET_DUTY, SET_PHASE, PULSE and CLEAR_LATCH (R173-R188, R200, R202),
the channel's own events, and the load-channel stages of a racking: releases (R199) and segment
retirement (R216). -/

namespace Sys2Proof.Machine

/-- Load channel number of a node ID. -/
def lcOf (u : Nat) : Nat := u - 0x0100

/-- A command that turns the channel on is stored as pending while DEMAG lasts, and becomes the
commanded state at once where protection holds the channel off (R188). A wait that it ends leaves the channel
off until then (R176). -/
def State.writeOn (s : State) (n : Nat) (sp : SetPt) (modeNew genNew : Bool) : State :=
  if (s.ch n).demagAt.isSome then
    let s1 := s.updLoad n (fun ch =>
      if ch.sh.mode == .wait then { ch with pend := some sp, sh := { ch.sh with mode := .off }, modeNew := true }
      else { ch with pend := some sp })
    if s.protOff n then s1.pendToCommand n else s1
  else s.updLoad n (fun ch => { ch with sh := sp, modeNew := ch.modeNew || modeNew, genNew := ch.genNew || genNew })

/-- A command that leaves the channel off: a pending turn-on is cancelled (R188), OC_LATCH and a retry
that is due or waiting are cleared (R200). The set-points that it does not name are those of a pending turn-on, as
LOADSW_CH_SET showed them: they become the commanded ones (DESIGN CHOICE, log 104). -/
def State.writeOff (s : State) (n : Nat) (sp : SetPt) : State :=
  (s.sweepLoad n).updLoad n (fun ch =>
    { ch with sh := sp, modeNew := true, pend := none, ocLatch := false, retryAt := none, retryHeld := false
              relHold := ch.relHold || ch.ocLatch
              pendCancel := if ch.pend.isSome then satInc ch.pendCancel 255 else ch.pendCancel })

/-! ### SET_OUT (R176, R177) -/

def setOutCarry (ramp : Bool) (s : State) (u : Nat) : Bool :=
  !ramp || s.genEn (lcOf u)

/-- The mode that SET_OUT on leads to without a stagger offset (R173): PIN on a channel with PIN_EN 1, from WAIT
too, where the row of WAIT says ON (DESIGN CHOICE, log 106). -/
def State.onMode (s : State) (n ramp : Nat) : DriveMode :=
  if ramp != 0 then .ramp else if s.pinEn n then .pin else .on

/-- SET_OUT on unit n with its stagger offset in 100 µs, judged from the commanded MODE, which a command of the same
racking may have set (DESIGN CHOICE, log 105). A unit in DEMAG takes it as its pending turn-on (R188). -/
def State.setOutUnit (s : State) (n : Nat) (on : Bool) (offset ramp : Nat) : State :=
  let sp := commanded (s.ch n)
  if !on then s.writeOff n { sp with mode := .off }
  else if offset != 0 then
    s.writeOn n { sp with mode := .wait, after := s.onMode n ramp, offset := offset, ramp := ramp } true false
  else
    match if (s.ch n).demagAt.isSome then .off else sp.mode with
    | .on => s
    | .ramp => if ramp != 0 then s else s.writeOn n { sp with mode := s.onMode n 0 } true false
    | _ => s.writeOn n { sp with mode := s.onMode n ramp, ramp := ramp } true false

/-- A turn-on command leaves the unit pending: it is in DEMAG, protection or not (R188, R189). -/
def State.pendLoad (s : State) (u : Nat) : Bool := (s.ch (lcOf u)).demagAt.isSome

def runSetOut (x : Ctx) (s : State) : State × Out :=
  let on := pb x.cmd 2 0
  let stagger := if on then pf x.cmd 2 8 8 else 0
  let ramp := if on then pf x.cmd 2 16 8 else 0
  s.outputCommand x (setOutCarry (ramp != 0))
    (fun t us => (us.zipIdx).foldl (fun a p => a.setOutUnit (lcOf p.1) on (p.2 * stagger) ramp) t)
    (fun t u => on && t.pendLoad u) [0]

/-! ### SET_DUTY (R178) -/

def genCarry (s : State) (u : Nat) : Bool :=
  s.genEn (lcOf u)

def State.setDutyUnit (s : State) (n duty freq : Nat) : State :=
  let sp := commanded (s.ch n)
  let sp1 := { sp with mode := .pwm, duty := duty, freq := if freq = 0 then sp.freq else freq }
  if duty = 0 then (s.writeOff n sp1).updLoad n (fun ch => { ch with genNew := true })
  else s.writeOn n sp1 true true

def runSetDuty (x : Ctx) (s : State) : State × Out :=
  let duty := pf x.cmd 2 0 12
  let freq := pf x.cmd 2 16 13
  s.outputCommand x genCarry (fun t us => us.foldl (fun a u => a.setDutyUnit (lcOf u) duty freq) t)
    (fun t u => duty != 0 && t.pendLoad u) (if freq = 0 then [0, 1] else [0, 1, 2])

/-! ### SET_PHASE (R182) -/

def State.setPhaseUnit (s : State) (n phase : Nat) : State :=
  s.updLoad n (fun ch => { ch with sh := { ch.sh with phase := phase }, genNew := true
                                   pend := ch.pend.map (fun p => { p with phase := phase }) })

/-- Phase of unit i of n (R182). -/
def spreadPhase (phase : Nat) (spread : Bool) (i n : Nat) : Nat :=
  if spread then (phase + i * 256 / n) % 256 else phase

def runSetPhase (x : Ctx) (s : State) : State × Out :=
  let phase := pf x.cmd 2 0 8
  let spread := pb x.cmd 2 8
  s.outputCommand x (fun _ _ => true)
    (fun t us => (us.zipIdx).foldl (fun a p =>
      a.setPhaseUnit (lcOf p.1) (spreadPhase phase spread p.2 us.length)) t)
    (fun _ _ => false) [3]

/-! ### PULSE (R183) -/

def pulseCarry (s : State) (u : Nat) : Bool :=
  !s.pinEn (lcOf u)

def runPulse (x : Ctx) (s : State) : State × Out :=
  let tr : Train := { width := pf x.cmd 2 0 20, count := pf x.cmd 2 24 8, gap := pf x.cmd 3 0 20, pol := pb x.cmd 3 31 }
  s.outputCommand x pulseCarry
    (fun t us => us.foldl (fun a u =>
      a.writeOn (lcOf u) { commanded (a.ch (lcOf u)) with mode := .pulse, train := tr } true false) t)
    State.pendLoad [0]

/-! ### CLEAR_LATCH (R202) and releases (R199) -/

/-- The output takes the commanded state after a release: PWM stays off until the next boundary of its
grid, a ramp restarts (R199). -/
def State.restart (s : State) (n : Nat) : State :=
  let e := s.eAt s.now
  s.updLoad n (fun ch =>
    match ch.act.mode with
    | .pwm => { ch with gen := genStart false ch.act.freq ch.act.phase ch.act.duty e }
    | .ramp => startRamp ch ch.act e false
    | _ => ch)

def State.retryMax (s : State) (n : Nat) : Nat := s.cfg (lcProt n) 16 4

def State.clearLatchUnit (s : State) (n : Nat) (oc ol : Bool) : State :=
  let was := (s.ch n).ocLatch || (s.ch n).locked
  let s1 := if oc then
      let s2 := (s.sweepLoad n).updLoad n (fun ch =>
        { ch with ocLatch := false, locked := false, retryAt := none, retryHeld := false, relHold := ch.relHold || was
                  retryLeft := s.retryMax n })
      if was then s2.restart n else s2
    else s
  if ol then s1.updLoad n (fun ch => { ch with openLoad := false, olRun := 0 }) else s1

def runClearLatch (x : Ctx) (s : State) : State × Out :=
  let oc := pb x.cmd 2 0
  let ol := pb x.cmd 2 1
  s.outputCommand x (fun _ _ => true)
    (fun t us => us.foldl (fun a u => a.clearLatchUnit (lcOf u) oc ol) t) (fun _ _ => false) []

/-- A retry is due (R198). -/
def State.retryIsDue (s : State) (n : Nat) : Bool :=
  match (s.ch n).retryAt with | some t => decide (t ≤ s.now) | none => false

/-- A release is due on channel n at this racking (R198, R201, R437). -/
def State.releaseDue (s : State) (n : Nat) : Bool :=
  let ch := s.ch n
  !ch.keeper.held && !s.holdOff && !ch.locked && !ch.segFail && !ch.thermLatch &&
  (if ch.ocLatch then s.retryIsDue n else ch.thermRel || (ch.safeHeld && !s.flt.safe))

/-- The channel with its release applied, the output from the output update on (R199). -/
def State.applyRelease (s : State) (n : Nat) : State :=
  ((s.sweepLoad n).updLoad n (fun ch =>
    { ch with relHold := true, ocLatch := false, thermRel := false, retryHeld := false, admitHeld := false, retryAt := none
              safeHeld := ch.safeHeld && s.flt.safe
              retryLeft := if ch.ocLatch then ch.retryLeft - 1 else ch.retryLeft })).restart n

/-- Release of one channel, checked by admission against the state in which it is off (R199). A channel
that a keeper holds stays with its keeper when the safe state ends (R75, R437). -/
def State.releaseOne (s : State) (n : Nat) : State :=
  if (s.ch n).keeper.held then
    (if (s.ch n).safeHeld && !s.flt.safe then s.updLoad n (fun ch => { ch with safeHeld := false }) else s)
  else if !s.releaseDue n then s
  else if (commanded (s.ch n)).mode == .off then
    s.updLoad n (fun ch => { ch with thermRel := false, retryHeld := false, safeHeld := ch.safeHeld && s.flt.safe })
  else
    let t := s.applyRelease n
    let off := t.updLoad n (fun ch => { ch with sh := { ch.sh with mode := .off }, pend := none })
    match off.admission t with
    | none => t
    | some r =>
        (s.updLoad n (fun ch => { ch with retryHeld := true, admitHeld := true
                                          admitRefused := satInc ch.admitRefused 255 })).noteRefusal
          0 0 (0x0100 + n) r true

/-- Releases of the racking, in ascending node ID (R199). -/
def State.releases (s : State) : State := s.forEach s.loads State.releaseOne

/-! ### PIN_FAULT (R185) -/

/-- Channels that have entered PIN_FAULT since the state s0, each counted as LOAD_PIN (R185): their pin went over its
FMAX, or they entered mode PIN on such a pin. -/
def State.newPinFaults (s s0 : State) : State :=
  s.faults ((s.loads.filter (fun n => s.pinFault n && !s0.pinFault n)).map (fun n => plainEvent 0x1B n))

/-! ### Events -/

/-- The mode that follows WAIT starts at the end of the offset (R176, R187). A wait that a command has ended does not
run on, and an offset that ends in DEMAG does so once. -/
def State.staggerEnd (s0 : State) (n : Nat) : State :=
  let s := s0.sweepLoad n
  let ch := s.ch n
  if ch.act.mode == .wait && ch.pend.isNone && decide (ch.modeAt + ch.act.offset * 100000 ≤ s.now) then
    let sp := { ch.act with mode := ch.act.after, offset := 0 }
    if ch.demagAt.isSome then s.updLoad n (fun c => { c with pend := some { c.sh with mode := sp.mode, ramp := sp.ramp } })
    else
      (s.updLoad n (fun c =>
        let d := takeSetPt c sp true true false s.now (s.eAt s.now)
        { d with sh := { c.sh with mode := if c.modeNew then c.sh.mode else sp.mode } })).noteGate n |>.newPinFaults s
  else s0

def execStaggerElapsed (at_ : Nat) (n : Fin 48) (s : State) : Host.Outcome State Fault Refusal :=
  s.done ((s.atPhase at_).staggerEnd n)

/-- The channel takes a steady mode by itself: commanded state and output (R177, R183). -/
def State.settle (s : State) (n : Nat) (m : DriveMode) : State :=
  s.updLoad n (fun c => { c with act := { c.act with mode := m }, modeAt := s.now
                                 sh := if c.modeNew then c.sh else { c.sh with mode := m } })

def State.rampEnd (s0 : State) (n : Nat) : State :=
  let s := s0.sweepLoad n
  let ch := s.ch n
  let e := s.eAt s.now
  match ch.act.mode, genRun ch.gen e with
  | .ramp, (some r, _) => if 4095 ≤ runDuty ch r e then s.settle n .on else s0
  | _, _ => s0

def execRampComplete (at_ : Nat) (n : Fin 48) (s : State) : Host.Outcome State Fault Refusal :=
  s.done ((s.atPhase at_).rampEnd n)

/-- The last active time has ended: rest level for good, and DEMAG where the output turned off (R183,
R187). -/
def State.trainEnd (s0 : State) (n : Nat) : State :=
  let s := s0.sweepLoad n
  let ch := s.ch n
  let fin := ch.modeAt + trainNs ch.act.train
  if ch.act.mode == .pulse && decide (fin ≤ s.now) then
    if ch.act.train.pol then s.settle n .on
    else
      let s1 := s.settle n .off
      if s.owner n == 0 then s1.updLoad n (fun c => { c with demagAt := some fin, clampSeen := false }) else s1
  else s0

def execPulseTrainComplete (at_ : Nat) (n : Fin 48) (s : State) : Host.Outcome State Fault Refusal :=
  s.done ((s.atPhase at_).trainEnd n)

/-- The pending turn-on was stored in the racking whose output update is still to come (R188). -/
def State.pendFresh (s : State) (n : Nat) : Bool :=
  s.eng.rackSets.any (fun r => r.node == 0x0100 + n && r.pend)

/-- DEMAG ends with the clamp energy of the turn-off in µJ (R187, R188). -/
def State.demagDone (s : State) (n uj : Nat) : State :=
  match (s.ch n).demagAt with
  | none => s
  | some t =>
      let s1 := (s.sweepLoad n).updLoad n (fun ch =>
        { ch with demagAt := none, demagTime := min 65535 ((s.now - t) / 1000), demagMj := min 4095 (uj / 1000)
                  clampUj := ch.clampUj + uj })
      match (s1.ch n).pend with
      | none => s1
      | some sp =>
          if s.pendFresh n then s1.updLoad n (fun ch => { ch with sh := sp, pend := none, modeNew := true, genNew := true })
          else (if s1.owner n == 0 then s1.applyPending n else s1.pendToCommand n).newPinFaults s1

def execDemagEnd (at_ : Nat) (n : Fin 48) (uj : Nat) (s : State) : Host.Outcome State Fault Refusal :=
  s.done ((s.atPhase at_).demagDone n uj)

def State.clampTooLong (s : State) (n : Nat) : State :=
  match (s.ch n).demagAt with
  | none => s
  | some t =>
      if decide (t + 100000000 < s.now) && !(s.ch n).clampSeen then
        (s.updLoad n (fun ch => { ch with clampSeen := true, clampLong := satInc ch.clampLong 255 })).fault 0x1A n
      else s

def execClampLong (at_ : Nat) (n : Fin 48) (s : State) : Host.Outcome State Fault Refusal :=
  s.done ((s.atPhase at_).clampTooLong n)

/-- FMAX of a pin. -/
def State.fmax (s : State) (p : Nat) : Nat := s.cfg (pwmCfg p) 0 13

def State.updPin (s : State) (p : Nat) (f : PwmPin → PwmPin) : State := { s with pins := vupd s.pins p f }

/-- What pin p carries from TB0 `rise` on, as measured: FREQ and DUTY are those of the latest complete period (log 110). -/
def PwmPin.take (p : PwmPin) (w : PinWave) (now : Nat) : PwmPin :=
  { p with level := w.level, rise := now - w.ago, per := w.per, high := w.high
           freq := if w.per = 0 then p.freq else min 8191 (1000000000 / w.per)
           duty := if w.per = 0 then p.duty else min 4095 (4095 * w.high / w.per)
           lastRise := if w.level || w.per != 0 then some (now - w.ago) else p.lastRise }

/-- The latest four of a pin's periods in ns, oldest first, all meet a condition (R185). -/
def fourPeriods (l : List Nat) (f : Nat → Bool) : Bool := decide (4 ≤ l.length) && (l.drop (l.length - 4)).all f

/-- A period of pin p is shorter than 1 ÷ FMAX (R185). -/
def State.tooFast (s : State) (p t : Nat) : Bool := decide (t * s.fmax p < 1000000000)

/-- A rising edge of pin p ends a period: after four in a row that are too fast the pin is over its FMAX, after four
that are not it is not; the channels in mode PIN on it are held off, or follow it again (R185). -/
def State.pinPeriods (s : State) (p : Nat) (over_ : Bool) (periods : List Nat) (high : Nat) : State :=
  if fourPeriods periods (fun t => s.tooFast p t == over_) then
    let s1 := s.sweepLoads.updPin p (fun q =>
      { (q.take ⟨true, 0, periods.getLast?.getD 0, high⟩ s.now) with overFF := over_ })
    s1.newPinFaults s
  else s

def execPinOverFrequency (at_ : Nat) (p : Fin 8) (periods : List Nat) (high : Nat) (s : State) :
    Host.Outcome State Fault Refusal :=
  s.done ((s.atPhase at_).pinPeriods p true periods high)

def execPinFrequencyOk (at_ : Nat) (p : Fin 8) (periods : List Nat) (high : Nat) (s : State) :
    Host.Outcome State Fault Refusal :=
  s.done ((s.atPhase at_).pinPeriods p false periods high)

/-- Over-current threshold in mA (R194). -/
def ocThreshold (n sel : Nat) : Nat :=
  if classH n then
    ([10000, 12000, 14000, 16000, 18000, 20000, 22000, 24000, 27000, 30000, 33000, 36000, 39000, 42000, 45000, 48000][sel]?).getD 0
  else
    ([3000, 3500, 4000, 4500, 5000, 5500, 6000, 6500, 7000, 8000, 9000, 10000, 11000, 12000, 13000, 14000][sel]?).getD 0

/-- Retry delay in ms (R197). -/
def State.retryDelay (s : State) (n left : Nat) : Nat :=
  let d := s.cfg (lcProt n) 20 10
  if s.cfgBit (lcProt n) 13 then min (d * 2 ^ (s.retryMax n - left)) (8 * d) else d

/-- A current above the threshold turns the channel off; the clamp acts, and its energy comes with the tick that ends
the frame (R186, R194). -/
def State.ocOff (s0 : State) (n ma : Nat) : State :=
  let s := s0.sweepLoad n
  if s.gate n && decide (ocThreshold n (s.cfg (lcProt n) 0 4) < ma) then
    let ch := s.ch n
    let s1 := (s.noteGate n).updLoad n (fun c =>
      { c with ocLatch := true, ocEvents := satInc c.ocEvents 255, lastLatch := some s.now, keeper := c.keeper.trip })
    if ch.retryLeft = 0 then
      (s1.updLoad n (fun c => { c with locked := true, retryAt := none })).faults [plainEvent 0x16 n, plainEvent 0x18 n]
    else
      let d := s.retryDelay n ch.retryLeft
      (s1.updLoad n (fun c => { c with retryAt := some (s.now + d * 1000000), curDelay := d })).fault 0x16 n
  else s0

def execOcLatchOff (at_ : Nat) (n : Fin 48) (ma : Nat) (s : State) : Host.Outcome State Fault Refusal :=
  s.done ((s.atPhase at_).ocOff n ma)

def execRetryDue (at_ : Nat) (n : Fin 48) (s : State) : Host.Outcome State Fault Refusal :=
  let s1 := s.atPhase at_
  s.done (if s1.retryIsDue n && (s1.ch n).thermLatch then s1.updLoad n (fun c => { c with retryHeld := true }) else s1)

def State.refill (s : State) (n : Nat) : State :=
  match (s.ch n).lastLatch with
  | some t => if t + 1000000000 ≤ s.now then
      s.updLoad n (fun c => { c with retryLeft := s.retryMax n, lastLatch := none }) else s
  | none => s

def execRetryRefill (at_ : Nat) (n : Fin 48) (s : State) : Host.Outcome State Fault Refusal :=
  s.done ((s.atPhase at_).refill n)

def State.thermOff (s : State) (n : Nat) : State :=
  if !hasLoad s.var n || (s.ch n).thermLatch then s
  else
    let s1 := ((s.sweepLoad n).noteGate n).updLoad n (fun c =>
      { c with thermLatch := true, thermRel := false, keeper := c.keeper.trip, thermEvents := satInc c.thermEvents 255
               retryHeld := c.retryHeld || s.retryIsDue n })
    (s1.pendToCommand n).fault 0x17 n

def execThermalShutdown (at_ : Nat) (n : Fin 48) (s : State) : Host.Outcome State Fault Refusal :=
  s.done ((s.atPhase at_).thermOff n)

/-- THERM_LATCH clears: the restart waits for a racking, whichever rung drives the output (R198). -/
def State.thermClear (s : State) (n : Nat) : State :=
  if (s.ch n).thermLatch then
    let held := s.pwr.limpActive || s.pwr.limpRel || (s.ch n).safeHeld || (s.ch n).lossHeld || (s.ch n).keeper.held
    s.updLoad n (fun c => { c with thermLatch := false, thermRel := !c.ocLatch && (held || (commanded c).mode != .off) })
  else s

def execThermLatchClear (at_ : Nat) (n : Fin 48) (s : State) : Host.Outcome State Fault Refusal :=
  s.done ((s.atPhase at_).thermClear n)

def State.thermOverEvent (s : State) (c : Nat) : State :=
  match (s.cl c).overFrom with
  | some t =>
      if t + 100000000 ≤ s.now then
        (s.updCl c (fun k => { k with overFrom := some s.now })).faults
          [{ plainEvent 0x21 c with data := BitVec.ofInt 32 ((s.cl c).tNow / 100000) }]
      else s
  | none => s

def execThermOver (at_ : Nat) (c : Fin 16) (s : State) : Host.Outcome State Fault Refusal :=
  s.done ((s.atPhase at_).thermOverEvent c)

/-! ### Segments (R215-R218) -/

/-- A ledger entry (R44): KIND, CAUSE, UNIT, ITEM, SPARE; AT_CYCLE is the present power cycle. -/
def State.ledgerEntry (s : State) (kind cause unit item spare : Nat) : LedgerEntry :=
  { w0 := w32 (place item 0 16 + place unit 16 8 + place cause 24 4 + place kind 28 4)
    w1 := w32 (place spare 0 16 + place s.feat.powerCycles 16 16) }

/-- A replacement waits for the next racking to appear in the FEATURE window (R42). In the fuse-failed
state it is made but not recorded (R32). -/
def State.record (s : State) (e : LedgerEntry) : State :=
  if s.pwr.fuseFailed then s else { s with feat := { s.feat with waiting := s.feat.waiting ++ [e] } }

/-- Spare segment of a channel. -/
def spareSeg (n : Nat) : Nat := if n < 12 then 9 else 5

/-- A segment is due: RETIRE_DUE, or the outcome of R217 where the spare is in service. Cause 1 drift,
4 open. -/
def State.segDue (s : State) (n seg cause : Nat) : State :=
  let ch := s.ch n
  if ch.retireDue then s
  else if !ch.spareIn then s.updLoad n (fun c => { c with retireDue := true, dueSeg := seg, dueCause := cause })
  else
    if cause = 1 then s.updLoad n (fun c => { c with driftNoSpare := true, dueSeg := seg })
    else if ch.segFail then s
    else
      (s.updLoad n (fun c => { c with
        segFail := true, dueSeg := seg,
        segs := vupd c.segs seg (fun g => { g with state := 3 }) })).fault 0x1E n

/-- Retirement at step 4 of a racking (R216). -/
def State.retire (s : State) (n : Nat) : State :=
  let ch := s.ch n
  if ch.retireDue && !ch.onSince && !s.gate n && ch.demagAt.isNone && ch.pend.isNone && !ch.keeper.held then
    let s1 := s.updLoad n (fun c => { c with
      retireDue := false, spareIn := true, dueSeg := 15,
      segs := vput (vupd c.segs ch.dueSeg (fun g => { g with state := if ch.dueCause = 1 then 2 else 3 }))
        (spareSeg n) { (default : Seg) with state := 1 } })
    (s1.record (s.ledgerEntry 1 ch.dueCause n ch.dueSeg (spareSeg n))).fault 0x1D n
  else s

end Sys2Proof.Machine
end

