-- ==== Sys2Proof/Machine/Valve.lean ====
section
/-! DEFINITION. VALVE: VALVE_FIRE, VALVE_HOLD and VALVE_RELEASE (R231-R239), the firing profile (R228,
R230), peak groups (R234-R236), protection (R241-R243), the boost converter (R225-R227) and its
registers (R248). -/

namespace Sys2Proof.Machine

/-- Valve number of a node ID. -/
def vlOf (u : Nat) : Nat := u - 0x0200
/-- Bank of a valve (R221). -/
def bankOf (n : Nat) : Nat := n / 2
/-- Peak group of a valve (R234). -/
def State.groupOf (s : State) (n : Nat) : Nat := if s.cfgBit 0x40040000 1 then 0 else n / 4
/-- VTARGET, and VTARGET − READY_MARGIN, in 10 mV (R225). -/
def State.vTarget (s : State) : Nat := s.cfg 0x40040000 8 8 * 50
def State.readyLevel (s : State) : Nat := s.vTarget - s.cfg 0x40040000 16 4 * 100
def State.boostEn (s : State) : Bool := s.cfgBit 0x40040000 0

/-! ### Firing -/

/-- The firing of valve n ends: its energies are written and FIRES counts (R240). -/
def endFiring (v : Valve) : Valve :=
  if v.firing then
    { v with firing := false, eBoost := min 65535 v.accBoost, eRec := min 65535 v.accRec
             fires := (v.fires + 1) % 65536, accBoost := 0, accRec := 0 }
  else v

/-- Every peak ahead of n in its group has started and ended, no valve of its bank is in DROP, and no
supply hold-off acts (R236, R243). -/
def State.mayStart (s : State) (n : Nat) : Bool :=
  (s.vl n).st == .defer && !s.holdOff &&
  ((s.valve.queue.find? (fun p => s.groupOf p == s.groupOf n)) == some n) &&
  (List.range 8).all (fun p => !((s.vl p).st == .peak && s.groupOf p == s.groupOf n)) &&
  !((s.vl (partner n)).st == .drop)

/-- VBOOST is v in 10 mV now: the converter stops at VTARGET and starts again 0.5 V below it (R225). -/
def State.noteVboost (s : State) (v : Nat) : State :=
  { s with valve := { s.valve with
      vbNow := v
      switching := match s.valve.boost with
        | .charge | .ready => if s.vTarget ≤ v then false else s.valve.switching || decide (v + 50 ≤ s.vTarget)
        | _ => false } }

/-- The boost is ready (R225). -/
def State.boostIsReady (s : State) : Bool := hasBoost s.var && decide (s.readyLevel ≤ s.valve.vbNow)

/-- Limit of the input current in mA: it ramps from 0.5 A to ILIM_IN over the 1 ms of a soft start, and is 0
while the converter does not switch (R225). -/
def State.inputLimit (s : State) : Nat :=
  let lim := s.cfg 0x40040000 20 4 * 500
  if !s.valve.switching then 0
  else min lim (500 + (lim - 500) * (s.now - s.valve.softFrom) / 1000000)

/-- The peak of valve n starts if it may, on the VBOOST of this instant; a RELEASE of the other valve of the
bank is slowed from here on (R236, R237). -/
def State.startPeak (s : State) (n : Nat) : State :=
  if !s.mayStart n then s
  else
    let low := decide (s.valve.vbNow < s.readyLevel)
    let s1 := ((s.dequeue n).updValve n (fun v0 =>
      let v := endFiring v0
      { v with st := .peak, deferHolds := false, peakAt := s.now, phaseAt := s.now
               durAt := if v.keepOrigin then v.durAt else s.now
               origin := if v.keepOrigin then v.durAt else s.now
               keepOrigin := false
               deferUs := min 65535 ((s.now - v.reqAt) / 1000)
               peakMiss := false, boostNr := low, relSlowed := false, decayLong := false
               firing := true, accBoost := 0, accRec := 0 })).slowReleases
    if low then
      ({ s1 with valve := { s1.valve with cntNotReady := satInc s1.valve.cntNotReady 255 } }).fault 0x27 n
    else s1

/-- Start every queued peak that may start now. -/
def State.startPeaks (s : State) : State :=
  s.forEach (List.range 8) State.startPeak

/-- Valve n joins its peak queue. -/
def State.enqueuePeak (s : State) (n : Nat) : State :=
  if s.valve.queue.contains n then s
  else { s with valve := { s.valve with queue := s.valve.queue ++ [n] } }

/-- A valve command acts, at the output update or when a RELEASE completes (R232, R239). -/
def State.valveAct (s : State) (n : Nat) (c : VCmd) : State :=
  let v := s.vl n
  match c with
  | .fire d =>
      match v.st with
      | .off => (s.enqueuePeak n).updValve n (fun v =>
          { v with st := .defer, deferHolds := false, duration := d, reqAt := s.now })
      | .defer => s.updValve n (fun v => { v with duration := d })
      | .peak | .drop =>
          let s1 := s.updValve n (fun v => { v with duration := d, durAt := v.origin })
          if d != 0 && decide (v.origin + d * 100000 ≤ s.now) then s1.enterRelease n else s1
      | .hold => (s.enqueuePeak n).updValve n (fun v =>
          { v with st := .defer, deferHolds := true, duration := d, reqAt := s.now })
      | .release => (s.enqueuePeak n).updValve n (fun v => { v with pend := some (.fire d), reqAt := s.now })
  | .hold d o =>
      match v.st with
      | .off => s.updValve n (fun v => { v with st := .hold, phaseAt := s.now, durAt := s.now, duration := d, ovr := o })
      | .defer => (s.dequeue n).updValve n (fun v =>
          { v with st := .hold, phaseAt := s.now, durAt := s.now, duration := d, ovr := o, deferHolds := false })
      | .peak | .drop | .hold => s.updValve n (fun v => { v with durAt := s.now, duration := d, ovr := o })
      | .release => (s.dequeue n).updValve n (fun v => { v with pend := some (.hold d o) })
  | .release => s.releaseValve n

/-- The output update of one valve: its commands act in order (R232). A place that it still has stands where
the racking gave it (R235). -/
def State.updateValve (s : State) (n : Nat) : State :=
  let t := ((s.vl n).todo).foldl (fun t c => t.valveAct n c) (s.updValve n (fun v => { v with todo := [] }))
  if s.valve.queue.contains n && t.valve.queue.contains n then { t with valve := { t.valve with queue := s.valve.queue } }
  else t

/-- The output update of every valve, and the peaks that may start with it. -/
def State.updateValves (s : State) : State :=
  ((s.forEach s.valves State.updateValve).startPeaks.slowReleases).countOwed

/-! ### Commands -/

/-- VTHERM stands while the valve's own detector or that of its bank is hot (R241). -/
def State.vtherm (s : State) (n : Nat) : Bool := (s.vl n).vtherm || (s.vb (bankOf n)).hsTherm

/-- Protection of R241 stands on the valve (R242). -/
def State.valveLocked (s : State) (n : Nat) : Bool := (s.vl n).ocLatch || (s.vl n).bankOc || s.vtherm n

def fireCarry (s : State) (u : Nat) : Bool :=
  (match s.valve.boost with | .charge | .ready | .held => true | _ => false) && s.boostEn &&
  !s.valve.entryHold && !s.valveLocked (vlOf u)

def holdCarry (s : State) (u : Nat) : Bool := !s.valve.entryHold && !s.valveLocked (vlOf u)

/-- A command to a valve in RELEASE is stored as pending at once; any other waits for the output
update (R232, R239). -/
def State.writeValve (s : State) (n : Nat) (c : VCmd) : State :=
  if (s.vl n).st == .release then s.valveAct n c
  else s.updValve n (fun v => { v with todo := v.todo ++ [c] })

def State.pendValve (s : State) (u : Nat) : Bool := (s.vl (vlOf u)).st == .release && (s.vl (vlOf u)).pend.isSome

/-- State of a valve, and whether it has a place in its queue, after a command of the racking (R232). -/
def afterVCmd (p : VState × Bool × Bool) (c : VCmd) : VState × Bool × Bool :=
  match c, p with
  | .fire _, (.off, _, _) => (.defer, false, true)
  | .fire _, (.hold, _, _) => (.defer, true, true)
  | .fire _, (.release, h, _) => (.release, h, true)
  | .hold _ _, (.off, _, _) | .hold _ _, (.defer, _, _) => (.hold, false, false)
  | .hold _ _, (.release, h, _) => (.release, h, false)
  | .release, (.defer, h, _) => (if h then .release else .off, false, false)
  | .release, (.peak, _, _) | .release, (.drop, _, _) | .release, (.hold, _, _) => (.release, false, false)
  | .release, (.release, h, _) => (.release, h, false)
  | _, q => q

/-- State of valve n and whether it has a place, after the commands that stand for this output update. -/
def State.valveAhead (s : State) (n : Nat) : VState × Bool × Bool :=
  (s.vl n).todo.foldl afterVCmd ((s.vl n).st, (s.vl n).deferHolds, s.valve.queue.contains n)

/-- Start bound of valve n for a peak requested now (R235). A RELEASE that this racking starts starts now. -/
def State.startBound (s : State) (n : Nat) : Nat :=
  let u := s.now
  let v := s.vl n
  let w := s.vl (partner n)
  let a := if (s.valveAhead n).1 == .release then max u ((if v.st == .release then v.phaseAt else u) + s.decayNs n) else u
  let b := if w.st == .drop then max a (w.phaseAt + s.decayNs (partner n)) else a
  let ahead := (List.range 8).filter (fun p =>
    s.groupOf p == s.groupOf n && ((s.vl p).st == .peak || s.valve.queue.contains p) && p != n)
  ahead.foldl (fun t p =>
    let from_ := if (s.vl p).st == .peak then (s.vl p).peakAt else (s.vl p).bound
    let e := from_ + s.peakNs p + (if bankOf p = bankOf n then s.decayNs p else 0)
    max t e) b

/-- A VALVE_FIRE would queue valve n for a peak: after the racking's earlier commands it has no place and is not in
PEAK or DROP. -/
def State.needsPlace (s : State) (n : Nat) : Bool :=
  match s.valveAhead n with | (.off, _, false) | (.hold, _, false) | (.release, _, false) => true | _ => false

/-- Give the units their start bounds in ascending node ID: the state with their places, and each
unit's deferral in µs (R235). -/
def State.giveBounds (s : State) (us : List Nat) : State × List (Nat × Nat) :=
  us.foldl (fun (p : State × List (Nat × Nat)) u =>
    let n := vlOf u
    if p.1.needsPlace n then
      let b := p.1.startBound n
      (((p.1.dequeue n).enqueuePeak n).updValve n (fun v => { v with bound := b }), p.2 ++ [(n, (b - s.now) / 1000)])
    else p) (s, [])

/-- DEFER_MAX of a valve's bank in µs. -/
def State.deferMax (s : State) (n : Nat) : Nat := s.cfg (vbCfg (bankOf n)) 0 8 * 100

def runValveFire (x : Ctx) (s : State) : State × Out :=
  let d := pf x.cmd 2 0 16
  let won := (s.unitSet x.cmd.node).filter (fun u => !s.losesOn x u && fireCarry s u)
  let r := s.outputCommand x fireCarry
    (fun t us => us.foldl (fun a u => a.writeValve (vlOf u) (.fire d)) (t.giveBounds us).1)
    State.pendValve [0]
  if r.2.status = 0x22 ∨ won.isEmpty then (r.1, { r.2 with words := r.2.words ++ [0] })
  else
    let defs := (s.giveBounds won).2
    match defs.find? (fun p => decide (s.deferMax p.1 < p.2)) with
    | some p =>
        (s.forEach won (fun t u => t.updValve (vlOf u) (fun v => { v with deferred := satInc v.deferred 255 })),
         { outWords [actedWord 0 r.2.lost, w32 p.2] with status := 0x31, lost := r.2.lost })
    | none => (r.1, { r.2 with words := r.2.words ++ [w32 (defs.foldl (fun a p => max a p.2) 0)] })

def runValveHold (x : Ctx) (s : State) : State × Out :=
  let d := pf x.cmd 2 0 16
  let o := pf x.cmd 2 16 12
  s.outputCommand x holdCarry (fun t us => us.foldl (fun a u => a.writeValve (vlOf u) (.hold d o)) t)
    State.pendValve [0]

/-- Clear OC_LATCH and OPEN of the valve, and BANK_OC of its bank and of both valves (R242). -/
def State.clearValve (s : State) (n : Nat) : State :=
  (((s.updValve n (fun v => { v with ocLatch := false, open_ := false, bankOc := false })).updValve (partner n)
    (fun v => { v with bankOc := false }))).updBank (bankOf n) (fun b => { b with bankOc := false })

def runValveRelease (x : Ctx) (s : State) : State × Out :=
  let clear := optBit x.cmd 0
  s.outputCommand x (fun _ _ => true)
    (fun t us => us.foldl (fun a u =>
      let b := a.writeValve (vlOf u) .release
      if clear then b.clearValve (vlOf u) else b) t) (fun _ _ => false) [0]

/-! ### Events -/

def execPeakStart (at_ : Nat) (n : Fin 8) (vboost : Nat) (s : State) : Host.Outcome State Fault Refusal :=
  s.done (((s.atPhase at_).noteVboost vboost).startPeak n)

/-- DURATION of valve n has ended. -/
def durOver (v : Valve) (now : Nat) : Bool := v.duration != 0 && decide (v.durAt + v.duration * 100000 ≤ now)

/-- The peak of valve n ends with its highest current in mA, the time to I_PEAK in µs and the energy
drawn in 0.1 mJ (R228, R230). -/
def State.peakDone (s : State) (n topMa reachUs boost : Nat) : State :=
  let v := s.vl n
  if v.st == .peak && (decide (v.peakAt + s.peakNs n ≤ s.now) || durOver v s.now) then
    let s1 := s.endPeak n topMa reachUs boost
    (if topMa * 5 < s.iPeak n || durOver v s.now then s1.toRelease n
     else s1.updValve n (fun v => { v with st := .drop, phaseAt := s.now })).countOwed
  else s

def execPeakEnd (at_ : Nat) (n : Fin 8) (topMa reachUs boost01mJ : Nat) (s : State) :
    Host.Outcome State Fault Refusal :=
  s.done ((s.atPhase at_).peakDone n topMa reachUs boost01mJ)

def State.dropDone (s : State) (n : Nat) (reached : Bool) (rec_ : Nat) : State :=
  let v := s.vl n
  if v.st == .drop && (reached || decide (v.phaseAt + s.decayNs n ≤ s.now)) then
    (s.endDrop n rec_).updValve n (fun v => { v with st := .hold, decayLong := v.decayLong || !reached, phaseAt := s.now })
  else s

def execDropEnd (at_ : Nat) (n : Fin 8) (reached : Bool) (rec01mJ : Nat) (s : State) :
    Host.Outcome State Fault Refusal :=
  s.done ((s.atPhase at_).dropDone n reached rec01mJ)

def execHoldDurationEnd (at_ : Nat) (n : Fin 8) (s : State) : Host.Outcome State Fault Refusal :=
  let s1 := s.atPhase at_
  s.done (if (s1.vl n).st == .hold && durOver (s1.vl n) s1.now then (s1.enterRelease n).slowReleases else s1)

/-- RELEASE completes: OFF, the firing ends, and a pending command applies, a peak of it on the VBOOST of that
instant (R228, R236, R239, R240). -/
def State.releaseDone (s : State) (n : Nat) (reached : Bool) (rec_ : Nat) : State :=
  let v := s.vl n
  if v.st == .release && (reached || decide (v.phaseAt + s.decayNs n ≤ s.now)) then
    let s1 := s.updValve n (fun v => endFiring
      { v with st := .off, relUs := min 65535 ((s.now - v.phaseAt) / 1000), decayLong := v.decayLong || !reached
               accRec := v.accRec + rec_, ovr := 0, duration := 0, pend := none })
    match v.pend with
    | none => s1
    | some c =>
        let s2 := (s1.valveAct n c).updValve n (fun w => { w with reqAt := if w.st == .defer then v.reqAt else w.reqAt })
        s2.startPeak n
  else s

def execValveReleaseComplete (at_ : Nat) (n : Fin 8) (reached : Bool) (r : ReleaseIn) (s : State) :
    Host.Outcome State Fault Refusal :=
  s.done (((s.atPhase at_).noteVboost r.vboost).releaseDone n reached r.rec01mJ)

/-- CHOP in kHz (R229). -/
def State.chopKhz (s : State) (n : Nat) : Nat := s.cfg (vlCfg n) 16 6

/-- In HOLD, LSn has stayed on for `periods` whole chop periods in a row with the current at most topMa: from 16
periods below 50 % of the hold current on, the valve is open (R230). -/
def State.holdOpen (s : State) (n periods topMa : Nat) : State :=
  let v := s.vl n
  if v.st == .hold && decide (16 ≤ periods) && decide (v.phaseAt + periods * 1000000 / s.chopKhz n ≤ s.now) &&
      decide (2 * topMa < s.iHold n) then
    (((s.updValve n (fun v => { v with open_ := true })).enterRelease n).slowReleases).fault 0x25 n
  else s

def execValveHoldOpen (at_ : Nat) (h : HoldIn) (s : State) : Host.Outcome State Fault Refusal :=
  s.done ((s.atPhase at_).holdOpen h.n h.periods h.topMa)

/-- Protection takes valve n off: the end of a peak that it cut is counted with its own event (R241). -/
def State.protectValve (s : State) (n : Nat) (f : Valve → Valve) (src : Nat) : State :=
  ((((s.dropValve n).updValve n f).slowReleases).countOwed).fault src n

def State.valveOcEvent (s : State) (n : Nat) : State :=
  if (s.vl n).st == .off then s else s.protectValve n (fun v => { v with ocLatch := true }) 0x22

def execValveOc (at_ : Nat) (n : Fin 8) (s : State) : Host.Outcome State Fault Refusal :=
  s.done ((s.atPhase at_).valveOcEvent n)

/-- Both valves of a bank are taken off it; the bank is off, so that neither slows the other (R241). -/
def State.dropBank (s : State) (b : Nat) : State := ((s.dropValve (2 * b)).dropValve (2 * b + 1)).countOwed

def State.bankOcEvent (s : State) (b : Nat) : State :=
  if !hasBank s.var b then s
  else
    let f := fun (v : Valve) => { v with bankOc := true }
    ((((s.dropBank b).updValve (2 * b) f).updValve (2 * b + 1) f).updBank b (fun k => { k with bankOc := true })).fault 0x23 (0x10 + b)

def execValveBankOc (at_ : Nat) (b : Fin 4) (s : State) : Host.Outcome State Fault Refusal :=
  s.done ((s.atPhase at_).bankOcEvent b)

/-- A valve detector, or a bank detector, at 175 °C, or below 150 °C again (R241): each has its own flag, and VTHERM
shows either. -/
def State.valveThermEvent (s : State) (bank : Bool) (n : Nat) (hot : Bool) : State :=
  if bank then
    if !hasBank s.var n then s
    else if hot then ((s.dropBank n).updBank n (fun k => { k with hsTherm := true })).fault 0x24 (0x10 + n)
    else s.updBank n (fun k => { k with hsTherm := false })
  else if !hasValve s.var n then s
  else if hot then s.protectValve n (fun v => { v with vtherm := true }) 0x24
  else s.updValve n (fun v => { v with vtherm := false })

def execValveTherm (at_ : Nat) (bank : Bool) (n : Fin 8) (hot : Bool) (s : State) :
    Host.Outcome State Fault Refusal :=
  s.done ((s.atPhase at_).valveThermEvent bank n hot)

/-! ### Boost (R226, R227) -/

/-- The boost goes to a state. CHARGE from any state but READY is a soft start, in which the converter switches;
outside CHARGE and READY it does not (R225, R226). -/
def State.setBoost (s : State) (b : BoostSt) : State :=
  let go := b == .charge && s.valve.boost != .ready
  { s with valve := { s.valve with
      boost := b
      chargeAt := if b == .charge then s.now else s.valve.chargeAt
      softFrom := if go then s.now else s.valve.softFrom
      switching := if go then decide (s.valve.vbNow < s.vTarget)
        else match b with | .charge | .ready => s.valve.switching | _ => false } }

/-- CHARGE, where a supply hold-off acts HELD at once (R226). -/
def State.boostCharge (s : State) : State := (s.setBoost .charge).setBoost (if s.holdOff then .held else .charge)

/-- A load of the live image, or a bottling, meets the boost (R226): only the row of OFF asks for no hold-off
and no granted entry. -/
def State.boostLoad (s : State) : State :=
  if !hasBoost s.var then s
  else if s.boostEn then
    match s.valve.boost with
    | .off => if s.holdOff || s.valve.entryHold then s else s.setBoost .charge
    | .discharge => s.boostCharge
    | _ => s
  else
    match s.valve.boost with
    | .charge | .ready | .held | .fault => s.setBoost .discharge
    | _ => s

/-- An abandoned entry gives the boost back, at the next racking and if EN is 1 (R226, R244). -/
def State.boostBack (s : State) : State :=
  if hasBoost s.var && s.boostEn then
    match s.valve.boost with | .off | .discharge => s.boostCharge | _ => s
  else s

/-- A supply hold-off begins (R226). -/
def State.boostHold (s : State) : State :=
  match s.valve.boost with | .charge | .ready => s.setBoost .held | _ => s
/-- The hold-off ends. -/
def State.boostUnhold (s : State) : State :=
  match s.valve.boost with | .held => s.setBoost .charge | _ => s

def execBoostReady (at_ vboost : Nat) (s : State) : Host.Outcome State Fault Refusal :=
  let s1 := (s.atPhase at_).noteVboost vboost
  s.done (if s1.valve.boost == .charge && decide (s1.readyLevel ≤ vboost) then s1.setBoost .ready else s1)

def execBoostNotReadyDrop (at_ vboost : Nat) (s : State) : Host.Outcome State Fault Refusal :=
  let s1 := (s.atPhase at_).noteVboost vboost
  s.done (if s1.valve.boost == .ready && decide (vboost < s1.readyLevel) then s1.setBoost .charge else s1)

def State.boostTimeout (s : State) : State :=
  if s.valve.boost == .charge && decide (s.valve.chargeAt + 50000000 ≤ s.now) then
    let s1 := s.setBoost .fault
    { s1 with valve := { s1.valve with cntFail := satInc s1.valve.cntFail 255 } }.fault 0x28 0
  else s

def execBoostChargeTimeout (at_ : Nat) (s : State) : Host.Outcome State Fault Refusal :=
  s.done ((s.atPhase at_).boostTimeout)

def execBoostDischargeDone (at_ : Nat) (b : BoostIn) (s : State) : Host.Outcome State Fault Refusal :=
  let s1 := (s.atPhase at_).noteVboost b.vboost
  s.done (if s1.valve.boost == .discharge && decide (b.vboost * 10 ≤ b.vbatMv + 2000) then s1.setBoost .off else s1)

def State.dumpOn (s : State) (vboost : Nat) : State :=
  if hasBoost s.var && decide (7200 < vboost) && !s.valve.dump then
    { s with valve := { s.valve with dump := true, cntOv := satInc s.valve.cntOv 255 } }.fault 0x29 0
  else s

def execBoostDumpOn (at_ vboost : Nat) (s : State) : Host.Outcome State Fault Refusal :=
  s.done (((s.atPhase at_).noteVboost vboost).dumpOn vboost)

def execBoostDumpOff (at_ vboost : Nat) (s : State) : Host.Outcome State Fault Refusal :=
  let s1 := (s.atPhase at_).noteVboost vboost
  s.done (if vboost < s1.vTarget + 300 then { s1 with valve := { s1.valve with dump := false } } else s1)

/-- The first racking after a hold-off: each valve in PEAK or HOLD resumes, or is queued for a new peak
(R243). The peak that such a valve gives up ends as any peak does, but the valve is queued (log 97). -/
def State.resumeValves (s : State) (ma : List Nat) : State :=
  (s.forEach s.valves (fun t n =>
    let v := t.vl n
    let target := match v.st with | .peak => t.iPeak n | _ => t.iHold n
    if (v.st == .peak || v.st == .hold) && decide (2 * (ma[n]?.getD 0) < target) then
      ((t.cutPhase n).enqueuePeak n).updValve n (fun v =>
        { v with st := .defer, deferHolds := true, reqAt := t.now, bound := t.now, keepOrigin := true })
    else t)).countOwed

/-! ### The low-side and recirculation switches (R222, R228, R229) -/

/-- The periods of the higher valve of a bank start half a period after those of the lower one (R229). -/
def State.chopOffset (s : State) (n : Nat) : Nat :=
  if n % 2 = 1 && s.chopKhz n == s.chopKhz (partner n) then 500000 else 0

/-- ns from the start of the chop period of valve n that TB0 t falls in (R229). -/
def State.chopPhase (s : State) (n t : Nat) : Nat :=
  let khz := s.chopKhz n
  let org := (Config.chopOrigin (bankOf n) khz).toNat
  ((t + 1000000 * org - org) * khz + 1000000 - s.chopOffset n) % 1000000 / khz

/-- LSn and RCn of a chopping valve at TB0 t, in a period in which the current reaches its target `hit` ns from the
period's start (none: not in it): LSn from the start to the target and for at least 0.5 µs, RCn for the rest. -/
def State.chopping (s : State) (n t : Nat) (hit : Option Nat) : Bool × Bool :=
  let ls := match hit with | none => true | some h => decide (s.chopPhase n t < max 500 h)
  (ls, !ls)

/-- LSn and RCn of valve n now (R228): `top` tells that the present peak has reached I_PEAK. A supply hold-off keeps
LSn of a peak or hold on (R243). -/
def State.valveSwitches (s : State) (n : Nat) (top : Bool) (hit : Option Nat) : Bool × Bool :=
  let v := s.vl n
  match v.st with
  | .off | .drop | .release => (false, false)
  | .defer => if v.deferHolds then s.chopping n s.now hit else (false, false)
  | .peak => if s.holdOff || !top then (true, false) else s.chopping n s.now hit
  | .hold => if s.holdOff then (true, false) else s.chopping n s.now hit

/-! ### Registers and diagnostics (R245, R246, R248) -/

def vstateCode : VState → Nat
  | .off => 0 | .defer => 1 | .peak => 2 | .drop => 3 | .hold => 4 | .release => 5
def boostCode : BoostSt → Nat
  | .off => 0 | .charge => 1 | .ready => 2 | .held => 3 | .discharge => 4 | .fault => 5

/-- Bank state (R223): OFF during a supply hold-off (R243). -/
def State.bankHs (s : State) (b : Nat) : Nat :=
  let vs := [s.vl (2 * b), s.vl (2 * b + 1)]
  if s.holdOff || (s.vb b).bankOc || (s.vb b).hsTherm then 0
  else if vs.any (fun v => v.st == .peak) then 2
  else if vs.any (fun v => v.st == .drop || v.st == .hold || (v.st == .defer && v.deferHolds)) then 1
  else 0

def valveStat (v : Valve) (vtherm : Bool) (cls : Nat) : Word :=
  w32 (vstateCode v.st + place (b2n v.pend.isSome) 3 1 + place (b2n v.peakMiss) 4 1 + place (b2n v.boostNr) 5 1 +
    place (b2n v.relSlowed) 6 1 + place (b2n v.decayLong) 7 1 + place (b2n v.ocLatch) 8 1 +
    place (b2n v.bankOc) 9 1 + place (b2n vtherm) 10 1 + place (b2n v.open_) 11 1 + place cls 12 4 +
    place (min 65535 v.imeas) 16 16)
def valveTimes (v : Valve) : Word := w32 (place v.deferUs 0 16 + place v.reachUs 16 16)
def valveEnergy (v : Valve) : Word := w32 (place v.eBoost 0 16 + place v.eRec 16 16)
def valveDecay (v : Valve) : Word := w32 (place v.dropUs 0 16 + place v.relUs 16 16)
def State.bankStat (s : State) (b : Nat) : Word :=
  w32 (s.bankHs b + place (b2n (s.vb b).bankOc) 2 1 + place (b2n (s.vb b).hsTherm) 3 1 +
    place (min 65535 (s.vb b).ibank) 16 16)
def State.boostStat (s : State) : Word :=
  w32 (boostCode s.valve.boost + place (b2n s.boostIsReady) 3 1 +
    place (b2n s.valve.dump) 4 1)
def State.boostMeas (s : State) : Word := w32 (place s.valve.vboost 0 16 + place (min 65535 s.valve.iin) 16 16)

/-- Supply in a reduced region of R61. -/
def State.reduced (s : State) : Bool := s.region == 1

/-- Summary class of a valve at step 6 (R245). -/
def State.valveClass (s : State) (n : Nat) : Nat :=
  let v := s.vl n
  if s.valve.boost == .fault then 6
  else if v.ocLatch || v.bankOc then 5
  else if s.vtherm n || v.refused then 3
  else if v.open_ then 2
  else if v.peakMiss || v.boostNr || v.decayLong || s.reduced then 1
  else 0
/-- Summary class of a bank at step 6 (R245). -/
def State.bankClass (s : State) (b : Nat) : Nat :=
  if s.valve.boost == .fault then 6
  else if (s.vb b).bankOc then 5
  else if (s.vb b).hsTherm then 3
  else if s.reduced then 1
  else 0

def State.readValve (s : State) (off : Nat) : Option Word :=
  let n := (off - 0x200) / 0x20
  let b := (off - 0x100) / 0x10
  if off = 0 then some (s.stored 0x40040000)
  else if off = 4 then some s.boostStat
  else if off = 8 then some s.boostMeas
  else if off = 0xC then some (w32 (place s.valve.cntNotReady 0 8 + place s.valve.cntOv 8 8 + place s.valve.cntFail 16 8))
  else if off = 0x10 then
    let m := fun (p : Nat → Bool) => listMask ((List.range 8).filter p)
    some (w32 (m (fun n => (s.vl n).st == .peak) + place (m (fun n => s.valve.queue.contains n)) 8 8 +
      place (m (fun n => (s.vl n).st == .drop)) 16 8))
  else if 0x100 ≤ off ∧ off < 0x140 then
    if off % 0x10 = 0 then some (s.stored (0x40040000 + off))
    else if off % 0x10 = 4 then some (s.bankStat b) else none
  else if 0x200 ≤ off ∧ off < 0x300 then
    match off % 0x20 with
    | 0 => some (s.stored (0x40040000 + off))
    | 4 => some (s.stored (0x40040000 + off))
    | 8 => some (valveStat (s.vl n) (s.vtherm n) (s.vl n).cls)
    | 0xC => some (valveTimes (s.vl n))
    | 0x10 => some (valveEnergy (s.vl n))
    | 0x14 => some (valveDecay (s.vl n))
    | 0x18 => some (w32 (place (s.vl n).fires 0 16 + place (s.vl n).deferred 16 8 + place (s.vl n).pendCancel 24 8))
    | _ => none
  else none

end Sys2Proof.Machine
end

