-- ==== Sys2Proof/Machine/Swin.lean ====
section
/-! DEFINITION. SWIN: debounced states and latches (R252-R256), READ_INPUTS, READ_SENSE and
WATCH_INPUTS (R258-R260), diagnostics (R261), Park samples (R263, R264), door inputs (R266) and the
registers (R267). -/

namespace Sys2Proof.Machine

def siOf (u : Nat) : Nat := u - 0x0300
/-- MODE of port n in service. -/
def State.siMode (s : State) (n : Nat) : Nat := s.cfg (siCfg n) 0 2
/-- VALID of port n (R253). -/
def State.siValid (s : State) (n : Nat) : Bool := (s.si n).valid && s.siMode n != 0
/-- Debounced state of port n: 0 while VALID is 0 (R253). -/
def State.siState (s : State) (n : Nat) : Bool := (s.si n).state && s.siValid n
/-- Bit mask of the 64 ports. -/
def portMask (p : Nat → Bool) : Nat := listMask ((List.range 64).filter p)
def lo32 (m : Nat) : Word := w32 m
def hi32 (m : Nat) : Word := w32 (m >>> 32)

/-- Mask of the ports that a target reaches. -/
def State.portsOf (s : State) (node : Nat) : Nat :=
  listMask (((s.unitSet node).filter (fun u => nodeKind u == some .input)).map siOf)

/-- Words 3-8 of READ_INPUTS for a set of ports, from the snapshot of step 1 (R258), and the command latches that
they report and that no transition has set again since (R486). -/
def State.inputWords (s : State) (reach_ : Nat) : List Word × Nat :=
  let m := fun (p : Port → Bool) => portMask (fun n => reach_.testBit n && p (s.si n))
  let st := m (fun p => p.snapState)
  let chg := m (fun p => p.snapCmd)
  let va := m (fun p => p.snapValid)
  ([lo32 st, hi32 st, lo32 chg, hi32 chg, lo32 va, hi32 va], m (fun p => p.snapCmd && decide (p.cmdSeq ≤ s.clk.snapSeq)))

def runReadInputs (x : Ctx) (s : State) : State × Out :=
  let r := s.inputWords (s.portsOf x.cmd.node)
  (s, { outWords r.1 with clrIn := r.2 })

/-- SWIN_IN_SENSE of port n (R257). -/
def siSense (p : Port) : Word := w32 (place (min 65535 p.vmean) 0 16 + place (min 65535 p.iwet) 16 16)

def runReadSense (x : Ctx) (s : State) : State × Out :=
  let us := s.unitSet x.cmd.node
  let two := optBit x.cmd 0
  let one := fun u =>
    let n := siOf u
    let v := if s.siMode n = 0 then 0xFFFF else min 65535 (s.si n).vmean
    w32 (place v 0 16 + place u 16 16) :: (if two then [w32 (min 65535 (s.si n).iwet)] else [])
  let most := if two then 126 else 253
  (s, outWords (w32 us.length :: (us.take most).flatMap one))

/-! ### Watches (R260) -/

def isWatch (o : Outst) : Bool := match o.wait with | .watch _ _ _ _ => true | _ => false
def State.watches (s : State) : Nat := (s.eng.outst.filter isWatch).length

/-- WATCH_INPUTS: none where it is armed and answered later. -/
def runWatchInputs (x : Ctx) (s : State) : State × Option Out :=
  if 4 ≤ s.watches then (s, some (outStatus 0x21))
  else if !s.eng.outstRoom then (s, some (outStatus 0x30))
  else
    let ref := (pw x.cmd 3).toNat + (pw x.cmd 4).toNat * 2 ^ 32
    (s.addOutst x.op x.cmd (.watch ref (pf x.cmd 2 0 16) s.clk.tickCount (s.portsOf x.cmd.node)), none)

/-- Frames since a value of FRAME_TICK_COUNT, which wraps (R116). -/
def State.framesSince (s : State) (since : Nat) : Nat := (s.clk.tickCount + 2 ^ 32 - since) % 2 ^ 32

/-- CAUSE with which a watch completes now: an entry's ask step, a difference, or the timeout. -/
def State.watchCause (s : State) (ask : Bool) (ref timeout since reach_ : Nat) : Option Nat :=
  if (List.range 64).any (fun n => reach_.testBit n && (s.si n).snapValid &&
      ((s.si n).snapState != ref.testBit n)) then some 0
  else if ask then some 2
  else if timeout ≤ s.framesSince since then some 1
  else none

/-- The watches are checked in order of arming; each that completes is answered (R260). -/
def State.checkWatches (s : State) (ask : Bool) : State :=
  s.eng.outst.foldl (fun t o =>
    match o.wait with
    | .watch ref timeout since reach_ =>
        match t.watchCause ask ref timeout since reach_ with
        | none => t
        | some c =>
            let r := t.inputWords reach_
            let t1 := { t with eng := { t.eng with outst := t.eng.outst.filter (fun p => p.ticket != o.ticket) } }
            t1.respond o.op o.cmd
              { outWords (r.1 ++ [w32 (c + place (t.framesSince since) 16 16)]) with clrIn := r.2 } true
    | _ => t) s

def execWatchTimeout (at_ : Nat) (s : State) : Host.Outcome State Fault Refusal :=
  s.done ((s.atPhase at_).checkWatches false)

/-! ### Samples (R249-R254, R484) -/

/-- Wetting current of a code in µA (R267). -/
def wetUa (code : Nat) : Nat := ([0, 1000, 2000, 5000, 10000, 15000][code]?).getD 0
/-- HYST in mV (R267). -/
def hystMv (code : Nat) : Nat := ([200, 500, 1000, 2000][code]?).getD 0

/-- A raw sample from the pin voltage; between the two levels the previous one stands (R250). -/
def rawOf (cfg : Word) (mv : Int) (prev : Bool) : Bool :=
  let thr : Int := 100 * bits cfg 8 8
  let hyst : Int := hystMv (bits cfg 6 2)
  if bit cfg 2 then (if mv < thr then true else if thr + hyst < mv then false else prev)
  else (if thr < mv then true else if mv < thr - hyst then false else prev)

/-- Pin voltage in mV and current in 10 µA under a wetting code: the wetting pulls an open contact to the rail
of its own supply; without wetting the device does not define the voltage (R484). -/
def contactLevel (c : Contact) (dir : Bool) (wet vbat : Nat) : Option (Int × Nat) :=
  match c with
  | .pin mv i => some (mv, i)
  | .open_ => if wetUa wet = 0 then none else some (if dir then (vbat : Int) else 0, 0)

/-- Raw sample of a pin under a wetting code: an open contact that is biased reads 0, inactive; without wetting
it is undefined (R484). -/
def contactRaw (c : Contact) (cfg : Word) (wet : Nat) (prev : Bool) : Option Bool :=
  match c with
  | .pin mv _ => some (rawOf cfg mv prev)
  | .open_ => if wetUa wet = 0 then none else some false

/-- Sample interval of a MODE in ns (R249, R252): SCAN in MODE 2. -/
def State.siInterval (s : State) (n : Nat) : Nat :=
  if s.siMode n = 2 then 500000 * 2 ^ s.cfg 0x40050400 0 2 else 50000
/-- First sample after the first press tick: 80 µs into the first pulse of the phase group in MODE 2 (R251). -/
def State.siOffset (s : State) (n : Nat) : Nat :=
  if s.siMode n = 2 then n / 8 * s.siInterval n / 8 + 80000 else 0
/-- Samples of port n up to TB0 t. -/
def State.samplesTo (s : State) (n t : Nat) : Nat :=
  let first := s.clk.epoch + s.siOffset n
  if t < first then 0 else (t - first) / s.siInterval n + 1
/-- N of R252. -/
def State.siNeed (s : State) (n : Nat) : Nat :=
  max 2 ((s.cfg (siCfg n) 16 8 * 500000 + s.siInterval n - 1) / s.siInterval n + 1)

/-- `k` equal raw samples: the debounced state takes their value when the last N are equal; its first
establishment sets no latch, every transition sets them (R252, R253, R255). -/
def Port.take (p : Port) (need seq : Nat) (v : Bool) (k : Nat) : Port :=
  if k = 0 then p
  else
    let q := { p with raw := v, run := if v == p.raw then p.run + k else k }
    if q.run < need then q
    else if !p.valid then { q with valid := true, state := v }
    else if p.state == v then q
    else { q with state := v, cmdLatch := true, cmdSeq := seq, regLatch := true, appLatch := 255,
                  toOne := p.toOne || v, toZero := p.toZero || !v }

/-- `k` equal conversions: the last 8 are kept; a wetting current below half of WET away from the rail, and a
pin above VBAT + 2 V, are noted (R257, R261). -/
def Port.convert (p : Port) (cfg : Word) (vbat : Nat) (c : Int × Nat) (k : Nat) : Port :=
  if k = 0 then p
  else
    let wet := wetUa (bits cfg 3 3)
    let far := if bit cfg 2 then decide (2000 < (vbat : Int) - c.1) else decide (2000 < c.1)
    let low := bits cfg 0 2 != 2 && wet != 0 && decide (20 * c.2 < wet) && far
    let run := if low then p.wetRun + k else 0
    { p with conv := (List.replicate (min k 8) (min 4095 (c.1 / 10).toNat, c.2) ++ p.conv).take 8
             wetRun := run, wetHit := p.wetHit || decide (4 ≤ run)
             ovHit := p.ovHit || decide ((vbat : Int) + 2000 < c.1) }

/-- Samples and conversions of a pin that the device leaves undefined: each is free (R484). -/
def Port.takeFree (cfg : Word) (vbat need seq ctr : Nat) (low : Bool) : Nat → Port → Port
  | 0, p => p
  | k + 1, p =>
      let w := Config.freeWord ctr
      let q := p.convert cfg vbat (10 * (bits w 8 12 : Nat), 0) 1
      Port.takeFree cfg vbat need seq (ctr + 1) low k (if low then q else q.take need seq (bit w 0) 1)

/-- Port n with every sample up to TB0 t taken: none in MODE 0; in low supply raw samples are discarded
(R249, R254). -/
def State.sweepTo (s : State) (n t : Nat) : State :=
  let p := s.si n
  let cfg := s.reg (siCfg n)
  let k := if s.siMode n = 0 || s.pwr.woken || !s.inRun then 0 else s.samplesTo n t - s.samplesTo n p.swept
  let c := vget s.contact n
  match contactLevel c (bit cfg 2) (bits cfg 3 3) s.supply.vbatMv, contactRaw c cfg (bits cfg 3 3) p.raw with
  | some l, some v =>
      s.updPort n (fun p =>
        let q := p.convert cfg s.supply.vbatMv l k
        { (if s.supply.low then q else q.take (s.siNeed n) s.evSeq v k) with swept := max p.swept t })
  | _, _ =>
      { s with freeCtr := s.freeCtr + k }.updPort n (fun p =>
        { Port.takeFree cfg s.supply.vbatMv (s.siNeed n) s.evSeq s.freeCtr s.supply.low k p with swept := max p.swept t })
/-- Every port sampled up to now. -/
def State.sweepPorts (s : State) : State := s.forEach (List.range 64) (fun t n => t.sweepTo n t.now)
/-- Port n as it stands now. -/
def State.portNow (s : State) (n : Nat) : Port := (s.sweepTo n s.now).si n

/-- What stands at a pin has changed `dur` PER cycles ago: the samples before took the old level. -/
def State.pinChange (s : State) (n : Nat) (c : Contact) (dur : Nat) : State :=
  let t := s.sweepTo n (s.now - 10 * dur - 1)
  { t with contact := vput t.contact n c }.sweepTo n s.now

/-- Ports armed as wake sources (R263). -/
def State.armed (s : State) (n : Nat) : Bool :=
  (if n < 32 then s.cfgBit 0x40050408 n else s.cfgBit 0x4005040C (n - 32)) && s.siMode n != 0

/-- The references are taken at the racking of the ask step (R264). -/
def State.takeReferences (s : State) : State :=
  s.forEach (List.range 64) (fun t n => t.updPort n (fun p => { p with ref := p.snapState, parkRun := 0 }))

/-- N_P of R264: samples of PERIOD × 262 PARK cycles at 32.768 kHz. -/
def State.nPark (s : State) (n : Nat) : Nat :=
  let d := s.cfg (siCfg n) 16 8 * 16384
  let c := 262000 * s.cfg 0x40050404 0 6
  (d + c - 1) / c + 1

/-- PARK cycles of one Park cycle (R263). -/
def State.parkPeriod (s : State) : Nat := 262 * s.cfg 0x40050404 0 6

/-- The Park sample of one armed port, under PARK_WET; none in low supply (R263, R484, R254). -/
def State.parkTake (s : State) (n : Nat) : State :=
  let cfg := s.reg (siCfg n)
  let put := fun (t : State) (v : Bool) => t.updPort n (fun p =>
    { p with raw := v, parkState := v, parkRun := if v != p.ref then p.parkRun + 1 else 0 })
  if s.supply.low then s
  else match contactRaw (vget s.contact n) cfg (bits cfg 24 3) (s.si n).raw with
    | some v => put s v
    | none => let r := s.fresh; put r.2 (bit r.1 0)

/-- One Park cycle samples every armed port; the ports whose wake fires (R263, R264). -/
def State.parkCycle (s : State) : State × List Nat :=
  let arm := (List.range 64).filter s.armed
  let t := { s with pwr := { s.pwr with parkN := s.pwr.parkN + 1 } }.forEach arm State.parkTake
  (t, arm.filter (fun n => s.nPark n ≤ (t.si n).parkRun))

/-- Mean of the last 8 conversions, or of those there are; none keeps the value before (R257, log 93). -/
def convMean (f : Nat × Nat → Nat) (old : Nat) (l : List (Nat × Nat)) : Nat :=
  if l.isEmpty then old else (l.map f).foldl (· + ·) 0 / l.length

/-- Step 1 of a racking: VMEAN and IWET, and the snapshot (R112, R257). -/
def State.snapPorts (s : State) : State :=
  s.forEach (List.range 64) (fun t n => t.updPort n (fun p =>
    { p with vmean := convMean (·.1) p.vmean p.conv
             iwet := convMean (·.2) p.iwet p.conv
             snapState := s.siState n, snapValid := s.siValid n, snapCmd := p.cmdLatch
             pubStat := p.diagStat, pubSense := p.diagSense, pubCls := p.cls, pubSampled := p.sampled && s.clk.sampled }))

/-- Door-open inputs whose port has gone to the open level since the snapshot before, and whose snapshot shows
it, lowest first (R266, log 94). -/
def State.doorEvents (s : State) : List Nat :=
  (List.range 4).filter (fun d =>
    let c := s.cfg 0x40050420 (8 * d) 8
    let p := s.si (c % 64)
    let open_ := c.testBit 6
    c.testBit 7 && p.snapValid && (if open_ then p.toOne else p.toZero) && (p.snapState == open_))
/-- The snapshot has been compared: later transitions count for the next one. -/
def State.doorsSeen (s : State) : State :=
  s.forEach (List.range 64) (fun t n => t.updPort n (fun p => { p with toOne := false, toZero := false }))

/-- Ports whose MODE, DIR, THR or HYST a bottling changes lose VALID, and the debounce starts afresh from a
previous value of 0 (R250, R253). -/
def State.portsReloaded (s : State) (old : State) : State :=
  s.forEach (List.range 64) (fun t n =>
    let a := old.reg (siCfg n)
    let b := s.reg (siCfg n)
    if bits a 0 3 = bits b 0 3 ∧ bits a 6 10 = bits b 6 10 then t
    else t.updPort n (fun p => { p with valid := false, state := false, raw := false, run := 0 }))

/-! ### Diagnostics (R261) -/

def State.siClass (s : State) (n : Nat) : Nat :=
  if (s.si n).wetFail then 6 else if (s.si n).overv || s.reduced then 1 else 0

/-- SWIN_IN_STAT (R267). -/
def State.siStat (s : State) (n : Nat) (p : Port) : Word :=
  let on := s.siMode n != 0 && p.valid
  w32 (b2n (on && p.state) + 2 * b2n p.raw + 4 * b2n on + 8 * b2n p.wetFail + 16 * b2n p.overv +
    place p.cls 8 4)

/-- Step 6 for one port, from its conversions since the previous step 6. The events are those of a new
WET_FAIL and a new OVERV; a port that is not sampled keeps what its latest sampled frame gave (R257, R261,
R267, log 95). -/
def State.samplePort (s : State) (n : Nat) : State × List (Nat × Nat) :=
  let fail := (s.si n).wetHit
  let ov := (s.si n).ovHit
  let due := s.siValid n && !s.supply.low && !s.supply.lowWin
  let new := if due && fail && !(s.si n).wetFail then [(0x2A, n)] else []
  let newOver := if due && ov && !(s.si n).overv then [(0x2B, n)] else []
  let s1 := s.updPort n (fun p => { p with sampled := due, wetHit := false, ovHit := false
                                           wetFail := if due then fail else p.wetFail
                                           overv := if due then ov else p.overv })
  let s2 := s1.updPort n (fun p => { p with cls := if due then s1.siClass n else p.cls })
  (s2.updPort n (fun p => { p with diagStat := s2.siStat n p, diagSense := siSense p }), new ++ newOver)

/-! ### Registers (R267) -/

def State.readSwin (s : State) (off : Nat) : Option Word :=
  let n := off / 4 % 64
  let half := fun (p : Nat → Bool) (hi : Bool) => some (if hi then hi32 (portMask p) else lo32 (portMask p))
  if off % 4 != 0 then none
  else if off < 0x100 then some (s.stored (0x40050000 + off))
  else if off < 0x200 then some (s.siStat n (s.portNow n))
  else if off < 0x300 then some (siSense (s.si n))
  else match off with
    | 0x400 => some (s.stored 0x40050400)
    | 0x404 => some (s.stored 0x40050404)
    | 0x408 => some (s.stored 0x40050408)
    | 0x40C => some (s.stored 0x4005040C)
    | 0x410 => half (fun n => s.siMode n != 0 && (s.portNow n).valid && (s.portNow n).state) false
    | 0x414 => half (fun n => s.siMode n != 0 && (s.portNow n).valid && (s.portNow n).state) true
    | 0x418 => half (fun n => (s.portNow n).regLatch) false
    | 0x41C => half (fun n => (s.portNow n).regLatch) true
    | 0x420 => if hasAccess s.var then some (s.stored 0x40050420) else none
    | 0x424 => some (w32 (listMask ((List.range 8).filter (fun g =>
        (List.range 8).any (fun i => s.armed (8 * g + i)))) + place s.watches 8 3))
    | 0x428 => half (fun n => (s.si n).ref) false
    | 0x42C => half (fun n => (s.si n).ref) true
    | _ => none

end Sys2Proof.Machine
end

