-- ==== Sys2Proof/Machine/Island.lean ====
section
/-! DEFINITION. FIELD: the island as it stands by itself and the mirror that good uplink cycles bring (R271,
R274): its start, link and power (R270-R276), FV24 (R277), inputs (R279-R281), outputs (R282-R284), FIELD_SET and
FIELD_READ (R284-R286), diagnostics (R287) and the registers (R290). -/

namespace Sys2Proof.Machine

def fioOf (u : Nat) : Nat := u - 0x0400
def State.fieldEn (s : State) : Bool := hasField s.var && s.cfgBit 0x40060000 0
/-- FV24 state as reported: LOST while the island is not in RUN (R277). -/
def State.fv24 (s : State) : Nat := if s.field.st == .run then s.field.fv24State else 2
/-- Rung 1 holds FIOn off, as the mirror shows it (R277, R282). -/
def State.fioHeld (s : State) (n : Nat) : Bool :=
  let c := s.fio n
  c.ocLatch || c.ftherm || c.relDue || (s.field.st == .run && decide (2 ≤ s.field.fv24State)) || s.field.relDue
/-- IN of FIOn: the filtered or readback level in MODE 1 and 3, else 0 (R278). -/
def fioIn (c : Fio) : Bool := c.inp && c.valid && c.mode % 2 == 1

/-- Level that the commanded state gives at TB0 t (R284). -/
def driveLevel (d : FDrive) (t : Nat) : Bool :=
  match d with
  | .off => false
  | .on => true
  | .pulse l a w => if t < a + w * 1000 then l else !l

/-- The island holds FIOn off by itself (R275, R277, R282). -/
def State.isleHeld (s : State) (n : Nat) : Bool :=
  let c := s.fio n
  let f := s.field
  c.iOc || c.iHot || c.relDue || f.iLost || f.iOver || f.relDue || f.dnOff
/-- Gate state of FIOn on the island (R278, R282, R288). -/
def State.fioGate (s : State) (n : Nat) : Bool :=
  let c := s.fio n
  s.field.serving && decide (2 ≤ c.mode) && !s.isleHeld n && !s.flt.safe && driveLevel c.iDrive s.now
/-- The island's gates follow; a gate edge is noted for R283. -/
def State.refreshGates (s : State) : State :=
  s.forEach (List.range 16) (fun t n => t.updFio n (fun c =>
    { c with iGate := s.fioGate n, gateAt := if s.fioGate n == c.iGate then c.gateAt else s.now }))

/-! ### Commands -/

def fieldCarry (s : State) (u : Nat) : Bool := decide (2 ≤ (s.fio (fioOf u)).mode) && s.field.st == .run

def runFieldSet (x : Ctx) (s : State) : State × Out :=
  let on := pb x.cmd 2 0
  let width := pf x.cmd 2 8 24
  let d : FDrive := if pb x.cmd 2 1 then .pulse on 0 width else if on then .on else .off
  let clr := optBit x.cmd 0
  s.outputCommand x fieldCarry
    (fun t us => us.foldl (fun a u => a.updFio (fioOf u) (fun c =>
      let c1 := if clr then { c with open_ := false, olRun := 0, clrReq := true } else c
      { c1 with sh := d, shNew := true })) t) (fun _ _ => false) [0]

/-- FIELD_EDGE_T(m). -/
def State.edgeT (s : State) (m : Nat) : Word := w32 (vget s.field.edge m).t

/-- FIELD_READ reports the snapshot of step 1; posting clears the latches that it reports and that no later edge
has set again (R286, R486). -/
def runFieldRead (x : Ctx) (s : State) : State × Out :=
  let us := ((s.unitSet x.cmd.node).filter (fun u => nodeKind u == some .fio)).map fioOf
  let m := fun (p : Fio → Bool) => listMask (us.filter (fun n => p (s.fio n)))
  let ws := [w32 (m (fun c => c.snapIn) + place (m (fun c => c.snapValid)) 16 16),
             w32 (m (fun c => c.snapChg) + place (m (fun c => c.snapGate)) 16 16),
             w32 (place s.field.snapFv24 0 16 + place s.field.snapFv24State 16 2 + place (b2n s.field.snapRun) 18 1)]
  (s, { outWords (ws ++ (if optBit x.cmd 0 then (List.range 4).map (fun k => w32 (vget s.field.snapEdge k)) else [])) with
        clrField := m (fun c => c.snapChg && decide (c.cmdSeq ≤ s.clk.snapSeq)) })

/-- A command reaches the island: a pulse starts now (R284). -/
def Fio.reach (c : Fio) (now : Nat) : Fio :=
  let d := match c.drive with | .pulse l a w => .pulse l (if c.cmdNew then now else a) w | d => d
  { c with drive := d, iDrive := d, cmdNew := false }

/-- The output update of the field channels: the commanded states of FIO0-FIO3 reach the island on their couplers,
the others with the next good downlink cycle (R271, R273). -/
def State.updateField (s : State) : State :=
  (s.forEach (List.range 16) (fun t n => t.updFio n (fun c =>
    let c1 := if c.shNew then { c with shNew := false, drive := c.sh, cmdNew := true } else c
    if n < 4 && s.field.serving then c1.reach s.now else c1))).refreshGates

/-- Modes in service; a channel that leaves MODE 2 and 3 has commanded state OFF (R278), and one whose
MODE, TYPE or FILT a bottling changes loses VALID (R280). -/
def State.serveModes (s : State) (old : State) : State :=
  s.forEach s.fios (fun t n =>
    let m := s.cfg (fioCfg n) 0 2
    let a := old.reg (fioCfg n)
    let b := s.reg (fioCfg n)
    let same := bits a 0 3 = bits b 0 3 ∧ bits a 4 8 = bits b 4 8
    t.updFio n (fun c =>
      let c1 := if 2 ≤ c.mode ∧ m < 2 then { c with sh := .off, shNew := false, drive := .off } else c
      if same then { c1 with mode := m }
      else { c1 with mode := m, valid := false, inp := false, iValid := false, iIn := false, lvlFrom := s.now }))

/-! ### The island (R270, R275, R276) -/

/-- Inputs start again without VALID; outputs have commanded state OFF (R275). -/
def State.clearChannels (s : State) : State :=
  s.fieldDrop.forEach (List.range 16) (fun t n => t.updFio n (fun c =>
    { c with valid := false, inp := false, iValid := false, iIn := false, lvlFrom := s.now }))

/-- The island is out of service: its outputs are off (R270, R275, R276). -/
def State.isleDown (s : State) : State :=
  (s.fieldOff.updField (fun f => { f with serving := false, configured := false, goodUp := 0, goodDn := 0, locked := false }))

/-- The island enters service with every output OFF and its inputs and FV24 judged afresh (R270, R277). -/
def State.isleUp (s : State) : State :=
  (s.fieldOff.clearChannels.forEach (List.range 16) (fun t n => t.updFio n (fun c =>
      { c with iOc := false, iHot := false, iRb := false, limFrom := none, gateAt := s.now }))).updField (fun f =>
    { f with st := .run, serving := true, dnOff := false, fv24State := 0, iWarn := false, iLost := false, iOver := false
             lowRun := 0, lostRun := 0, overRun := 0, relDue := false })

/-- What a racking does to the island's state: the transfer starts or stops with EN, and a configured island
enters service (R270). -/
def State.islandRack (s : State) : State :=
  if !s.fieldEn then
    if s.field.st == .off then s
    else s.clearChannels.isleDown.updField (fun f => { f with st := .off })
  else match s.field.st with
    | .off => s.updField (fun f => { f with st := .powering, since := s.now })
    | .config => if s.field.configured then s.isleUp else s
    | _ => s

/-- A bottling writes EN: PWR_FAIL is left (R276). -/
def State.islandBottled (s : State) : State :=
  if s.field.st == .pwrFail then s.updField (fun f => { f with st := .off, pwrRetries := 0, pwrFaults := 0 }) else s

/-- 8 good link cycles in a row in each direction lock the link; 16 more download the configuration and echo it
(R270). A lock after a loss counts in RELOCKS. -/
def Field.train (f : Field) : Field :=
  match f.st with
  | .training =>
      if 8 ≤ f.goodUp ∧ 8 ≤ f.goodDn then
        { f with st := .config, locked := true, goodUp := f.goodUp - 8, goodDn := f.goodDn - 8, relock := false
                 relocks := if f.relock then satInc f.relocks 255 else f.relocks }
      else f
  | .config => if 16 ≤ f.goodUp ∧ 16 ≤ f.goodDn then { f with configured := true } else f
  | _ => f
/-- `k` good link cycles in each direction during a start. -/
def Field.trainBy (f : Field) (k : Nat) : Field :=
  { f with goodUp := f.goodUp + k, goodDn := f.goodDn + k, badRun := 0, cplRun := 0, badDn := 0 }.train.train

/-- The regenerated FLD clock has locked and the FLD gate opens; l.cycles good link cycles in each direction have
followed (R270). -/
def execIslandStart (l : TrainIn) (s : State) : Host.Outcome State Fault Refusal :=
  let s1 := s.atPhase l.at_
  s.done (match s1.field.st with
    | .powering => s1.updField (fun f => { f with st := .training, goodUp := 0, goodDn := 0 }.trainBy l.cycles)
    | .training | .config => s1.updField (fun f => f.trainBy l.cycles)
    | _ => s1)

/-- The link is lost with a cause (R275). With the island rail lost, its outputs are off at once; else the island
turns them off by itself. -/
def State.linkLost (s : State) (cause : Nat) : State :=
  match s.field.st with
  | .training | .config | .run =>
      let t := if cause = 4 then s.clearChannels.isleDown else s.clearChannels
      (t.updField (fun f =>
        { f with st := .lost, locked := false, lossCause := cause, losses := satInc f.losses 255, since := s.now
                 badRun := 0, cplRun := 0, goodUp := 0, goodDn := 0, configured := false })).fault 0x33 cause
  | _ => s

/-! ### FV24 on the island (R277) -/

/-- TB0 since which a condition stands, given that it has stood since `t` or not at all. -/
def heldFrom (old : Option Nat) (ok : Bool) (t : Nat) : Option Nat := if ok then some (old.getD t) else none
/-- A state is left when its condition has stood for `ns` at TB0 `now`. -/
def leftAt (from_ : Option Nat) (ns now : Nat) : Bool :=
  match from_ with | some t => decide (t + ns ≤ now) | none => false

/-- `k` link cycles up to TB0 `now` have found FV24 at v, in 10 mV, since TB0 t (R277). -/
def Field.fvSample (f : Field) (v k t now : Nat) : Field :=
  let lowRun := if v < 1800 then f.lowRun + k else 0
  let lostRun := if v < 1500 then f.lostRun + k else 0
  let overRun := if 3300 < v then f.overRun + k else 0
  let warnOk := heldFrom f.warnOk (decide (1850 ≤ v)) t
  let lostOk := heldFrom f.lostOk (decide (1600 ≤ v)) t
  let overOk := heldFrom f.overOk (decide (v ≤ 3200)) t
  { f with
    lowRun := lowRun, lostRun := lostRun, overRun := overRun, warnOk := warnOk, lostOk := lostOk, overOk := overOk
    iWarn := (f.iWarn || decide (4 ≤ lowRun)) && !(f.iWarn && leftAt warnOk 1000000 now)
    iLost := (f.iLost || decide (4 ≤ lostRun)) && !(f.iLost && leftAt lostOk 10000000 now)
    iOver := (f.iOver || decide (4 ≤ overRun)) && !(f.iOver && leftAt overOk 1000000 now) }
/-- FV24 state of the island: LOST before OVER before WARN. -/
def Field.isleFv24 (f : Field) : Nat := if f.iLost then 2 else if f.iOver then 3 else if f.iWarn then 1 else 0

/-- The island judges FV24; a hold-off that ends leaves the outputs off until the next racking, and after LOST the
input filters restart (R277, R280). -/
def State.isleFv (s : State) (v k t : Nat) : State :=
  if !s.field.serving then s
  else
    let f := s.field
    let g := f.fvSample v k t s.now
    let ends := (f.iLost || f.iOver) && !(g.iLost || g.iOver)
    let s1 := { s with field := { g with relDue := g.relDue || ends } }
    if f.iLost || g.iLost then
      s1.forEach (List.range 16) (fun t n => t.updFio n (fun c => { c with iValid := false, iIn := false, lvlFrom := s.now }))
    else s1

/-! ### Channels on the island (R279-R283) -/

/-- Comparator of the input stage: rising and falling threshold of the TYPE in mV (R279). -/
def fioLevel (type3 : Bool) (mv : Nat) (prev : Bool) : Bool :=
  if (if type3 then 8000 else 10500) < mv then true
  else if mv < (if type3 then 6500 else 9000) then false
  else prev
/-- FIOn's pin has stood at `mv` for `dur` PER cycles. -/
def State.fioPin (s : State) (n mv dur : Nat) : State :=
  let v := fioLevel (s.cfgBit (fioCfg n) 2) mv (s.fio n).lvl
  s.updFio n (fun c => { c with lvl := v, lvlFrom := if v == c.lvl then c.lvlFrom else max c.lvlFrom (s.now - 10 * dur) })

/-- Filter time of FIOn in ns (R280). -/
def State.fioFilt (s : State) (n : Nat) : Nat :=
  if s.cfg (fioCfg n) 4 8 = 0 then 1000 else s.cfg (fioCfg n) 4 8 * 10000

/-- An edge of the mirrored input: latches, and the time stamp of FIO0-FIO3 (R280, R281). -/
def State.fioEdge (s : State) (n : Nat) (v : Bool) : State :=
  let s1 := s.updFio n (fun c => { c with inp := v, cmdLatch := true, cmdSeq := s.evSeq, regLatch := true, appLatch := 255 })
  if n < 4 then
    s1.updField (fun f => { f with edge := vupd f.edge n (fun e =>
      { t := (s.now - 900 - s.fioFilt n) % 2 ^ 32, dir := v, count := satInc e.count 255 }) })
  else s1

/-- The filter accepts a level that the comparator has held for FILT; FIO0-FIO3 tell it on their couplers (R274,
R280). -/
def State.fioAccept (s : State) (n : Nat) : State :=
  let c := s.fio n
  if !s.field.serving || s.field.iLost || c.mode % 2 == 0 || decide (s.now < c.lvlFrom + s.fioFilt n) then s
  else if c.iValid && c.iIn == c.lvl then s
  else
    let s1 := s.updFio n (fun c => { c with iIn := c.lvl, iValid := true })
    if 4 ≤ n then s1
    else if c.valid && c.iValid then s1.fioEdge n c.lvl
    else s1.updFio n (fun c => { c with inp := c.lvl })

/-- LIMITING for LIM_TIME without a break latches the output off (R282). -/
def State.fioLimit (s : State) (n : Nat) : State :=
  let t := s.cfg (fioCfg n) 16 8
  if t != 0 && leftAt (s.fio n).limFrom (t * 1000000) s.now then
    (s.updFio n (fun c => { c with iOc := true, limFrom := none })).refreshGates
  else s

/-- Readback against the gate, but for the 200 µs after a gate edge: a difference for (RB_N + 1) × 100 µs sets
the flag, 1 ms of agreement clears it (R283). -/
def State.fioReadback (s : State) (n : Nat) : State :=
  let c := s.fio n
  let from_ := max c.lvlFrom (c.gateAt + 200000)
  if !s.field.serving || c.mode != 3 then s
  else if c.lvl != c.iGate then
    if !c.iRb && decide (from_ + (s.cfg (fioCfg n) 29 3 + 1) * 100000 ≤ s.now) then
      s.updFio n (fun c => { c with iRb := true, iRbDir := !c.iGate })
    else s
  else if decide (from_ + 1000000 ≤ s.now) then s.updFio n (fun c => { c with iRb := false })
  else s

/-- Every channel as the island judges it now. -/
def State.isleJudge (s : State) : State :=
  s.forEach (List.range 16) (fun t n => ((t.fioAccept n).fioLimit n).fioReadback n)

/-! ### The mirror (R271, R274) -/

/-- One channel of the mirror takes a good uplink cycle. -/
def State.mirrorFio (s : State) (n : Nat) : State :=
  let c := s.fio n
  let moved := decide (4 ≤ n) && c.valid && c.iValid && c.inp != c.iIn
  let s1 := s.updFio n (fun c => { c with
    gate := c.iGate, valid := c.iValid, inp := if n < 4 then c.inp && c.iValid else c.iIn
    ocLatch := c.iOc, ftherm := c.iHot, rbMis := c.iRb, rbDir := c.iRbDir, limSeen := c.limSeen || c.limFrom.isSome })
  if moved then s1.fioEdge n c.iIn else s1

/-- Fault events of what a good uplink cycle shows for the first time (R277, R282, R283). -/
def State.mirrorEvents (s t : State) : List FEvent :=
  let rise := fun (p : Fio → Bool) (src : Nat) =>
    ((List.range 16).filter (fun n => !p (s.fio n) && p (t.fio n))).map (fun n => plainEvent src n)
  rise (·.ocLatch) 0x2F ++ rise (·.ftherm) 0x30 ++ rise (·.rbMis) 0x32

/-- The mirror takes each good uplink cycle whole, in RUN (R274). -/
def State.goodCycle (s : State) : State :=
  if s.field.st != .run then s
  else
    let t := (s.forEach (List.range 16) State.mirrorFio).updField (fun f => { f with fv24State := f.isleFv24 })
    t.faults (s.mirrorEvents t ++
      (if t.field.fv24State = 1 ∧ s.field.fv24State = 0 then [plainEvent 0x2C 0] else []) ++
      (if t.field.fv24State = 2 ∧ s.field.fv24State ≠ 2 then [plainEvent 0x2D 0] else []) ++
      (if t.field.fv24State = 3 ∧ s.field.fv24State ≠ 3 then [plainEvent 0x2E 0] else []))

/-- In the diagnostic window of the frame (R110). -/
def State.inWindow (s : State) : Bool := decide (s.period ≤ 20 * s.clk.phase) && decide (40 * s.clk.phase ≤ 3 * s.period)

/-- A good uplink cycle of a locked link: FV24 and the conversions of one channel, and the mirror. -/
def State.uplinkGood (s : State) (u : UplinkIn) : State :=
  let win := s.inWindow
  let s1 := s.updField (fun f =>
    { f with badRun := 0, cplRun := if u.disagree then f.cplRun + 1 else 0
             fv24 := min 65535 u.fv24, fv24Min := some (min (f.fv24Min.getD 65535) (min 65535 u.fv24)) })
  let s2 := s1.updFio u.conv (fun c =>
    { c with convI := u.iout, convV := u.vpin
             winI := if win then c.winI + u.iout else c.winI, winV := if win then c.winV + u.vpin else c.winV
             winN := if win then c.winN + 1 else c.winN })
  if 4 ≤ s2.field.cplRun then s2.linkLost 3 else s2.goodCycle

/-- An uplink cycle: the island judges what it measures; a cycle with a bad CRC is discarded whole (R271, R275). -/
def State.uplink (s : State) (u : UplinkIn) : State :=
  match s.field.st with
  | .training | .config | .run =>
      let s0 := s.forEach (List.range 16) (fun t n => t.updFio n (fun c =>
        { c with limFrom := heldFrom c.limFrom (u.limiting.testBit n && c.iGate) s.now }))
      let s1 := ((s0.isleFv (min 65535 u.fv24) 1 s0.now).isleJudge).refreshGates
      if !u.crcOk then
        let s2 := s1.updField (fun f => { f with crcUp := satInc f.crcUp 255, badRun := f.badRun + 1, goodUp := 0 })
        if 4 ≤ s2.field.badRun then s2.linkLost 1 else s2
      else
        let s2 := s1.updField (fun f => { f with goodUp := f.goodUp + 1 }.train)
        if s2.field.locked then s2.uplinkGood u else s2.updField (fun f => { f with badRun := 0 })
  | _ => s

def execFieldUplinkCycle (at_ : Nat) (u : UplinkIn) (s : State) : Host.Outcome State Fault Refusal :=
  s.done ((s.atPhase at_).uplink u)

/-- A downlink cycle: a good one carries the commanded states of FIO4-FIO15 and the clear requests; a bad one
leaves the island acting on its previous commands (R271). -/
def State.downlink (s : State) (ok : Bool) : State :=
  match s.field.st with
  | .training | .config | .run =>
      if !ok then s.updField (fun f => { f with badDn := f.badDn + 1, crcDn := satInc f.crcDn 255, goodDn := 0 })
      else
        let s1 := s.updField (fun f => { f with badDn := 0, dnOff := false, goodDn := f.goodDn + 1 }.train)
        if !s1.field.serving then s1
        else
          (s1.forEach (List.range 16) (fun t n => t.updFio n (fun c =>
            let c1 := if c.clrReq then { c with clrReq := false, iOc := false, iRb := false } else c
            if 4 ≤ n then c1.reach s.now else c1))).refreshGates
  | _ => s

def execFieldDownlinkCycle (at_ : Nat) (crcOk : Bool) (s : State) : Host.Outcome State Fault Refusal :=
  s.done ((s.atPhase at_).downlink crcOk)

/-- The link is lost: four failing uplink cycles, an unlocked FLD clock, COUPLER or the island rail (R275). -/
def execFieldLinkLoss (at_ cause : Nat) (s : State) : Host.Outcome State Fault Refusal :=
  let s1 := s.atPhase at_
  s.done (if 1 ≤ cause ∧ cause ≤ 4 then s1.linkLost cause else s1)

/-- No good downlink cycle for 4 cycles: the island turns its outputs off by itself (R275). -/
def State.islandOff (s : State) : State :=
  if 4 ≤ s.field.badDn ∨ s.field.st == .lost then (s.updField (fun f => { f with dnOff := true })).refreshGates else s

def execIslandDownlinkTimeout (at_ : Nat) (s : State) : Host.Outcome State Fault Refusal :=
  s.done ((s.atPhase at_).islandOff)

/-- Every 1 ms the mainland retrains a lost link: from TRAINING, or from the first step where the island rail was
lost; `cycles` good link cycles in each direction follow (R275). -/
def State.retrain (s : State) (cycles : Nat) : State :=
  let f := s.field
  let due := decide (f.since + 1000000 ≤ s.now)
  if !s.fieldEn || !due then s
  else if f.st == .lost && f.lossCause = 4 then s.updField (fun f => { f with st := .powering, since := s.now, relock := true })
  else if (f.st == .lost && f.lossCause != 5) || (f.st == .training && f.relock) then
    s.isleDown.updField (fun f => { f with st := .training, since := s.now, relock := true }.trainBy cycles)
  else s

def execFieldRetrain (l : TrainIn) (s : State) : Host.Outcome State Fault Refusal :=
  s.done ((s.atPhase l.at_).retrain l.cycles)

/-- A transfer fault: the transfer stops, and with it the island (R276). -/
def State.powerFault (s : State) : State :=
  match s.field.st with
  | .off | .pwrFail => s
  | _ =>
      let t := s.clearChannels.isleDown.updField (fun f =>
        { f with st := if 3 ≤ f.pwrFaults then .pwrFail else .lost, lossCause := 5
                 losses := satInc f.losses 255, since := s.now, pwrFaults := f.pwrFaults + 1 })
      t.faults [plainEvent 0x33 5, plainEvent 0x34 0]

def execFldPowerFault (at_ : Nat) (s : State) : Host.Outcome State Fault Refusal :=
  s.done ((s.atPhase at_).powerFault)

def execFldPowerRestart (at_ : Nat) (s : State) : Host.Outcome State Fault Refusal :=
  let s1 := s.atPhase at_
  s.done (if s1.fieldEn && s1.field.st == .lost && s1.field.lossCause == 5 &&
      decide (s1.field.since + 100000000 ≤ s1.now) then
    s1.updField (fun f => { f with st := .powering, since := s1.now, relock := true, pwrRetries := min 3 (f.pwrRetries + 1) }) else s1)

/-- FV24 has stood at a value for `dur` PER cycles, in each of whose link cycles it was converted; the last one
arrives good (R277). -/
def State.fv24Change (s : State) (fv24 dur : Nat) : State :=
  if s.field.st != .run then s
  else
    let v := min 65535 fv24
    let s1 := ((s.isleFv v (dur / 800) (s.now - 10 * dur)).isleJudge).refreshGates
    (s1.updField (fun f => { f with fv24 := v, fv24Min := some (min (f.fv24Min.getD 65535) v) })).goodCycle

def execFv24StateChange (at_ fv24 dur : Nat) (s : State) : Host.Outcome State Fault Refusal :=
  s.done ((s.atPhase at_).fv24Change fv24 dur)

/-! ### Channel events: each is told with a good uplink cycle that carries it -/

/-- The pin of FIOn has stood at l.mv for l.dur PER cycles: its filter accepts the level (R280, R281). -/
def execFieldInputEdge (at_ : Nat) (n : Fin 16) (l : LevelIn) (s : State) : Host.Outcome State Fault Refusal :=
  s.done ((((s.atPhase at_).fioPin n l.mv l.dur).fioAccept n).goodCycle)

/-- FIOn has been in current limit for `dur` PER cycles (R282). -/
def State.fioOc (s : State) (n dur : Nat) : State :=
  if s.field.serving && (s.fio n).iGate then
    ((s.updFio n (fun c => { c with limFrom := heldFrom c.limFrom true (s.now - 10 * dur) })).fioLimit n).goodCycle
  else s

def execFioOcLatch (at_ : Nat) (l : LimitIn) (s : State) : Host.Outcome State Fault Refusal :=
  s.done ((s.atPhase at_).fioOc l.n l.dur)

/-- The output stage detector of FIOn is at 170 °C (R282). -/
def State.fioHot (s : State) (n : Nat) : State :=
  if s.field.serving then
    ((s.updFio n (fun c => { c with iHot := true, relDue := false, limFrom := none })).refreshGates).goodCycle
  else s

def execFioTherm (at_ : Nat) (n : Fin 16) (s : State) : Host.Outcome State Fault Refusal :=
  s.done ((s.atPhase at_).fioHot n)

/-- The detector is below 150 °C: the output waits for the next racking (R282). -/
def State.fioCool (s : State) (n : Nat) : State :=
  if (s.fio n).iHot then (s.updFio n (fun c => { c with iHot := false, relDue := true })).goodCycle else s

def execFioThermRelease (at_ : Nat) (n : Fin 16) (s : State) : Host.Outcome State Fault Refusal :=
  s.done ((s.atPhase at_).fioCool n)

/-- The pin of FIOn has stood at `mv` for `dur` PER cycles: readback against the gate (R283). -/
def execFioReadbackMismatch (at_ : Nat) (n : Fin 16) (mv dur : Nat) (s : State) :
    Host.Outcome State Fault Refusal :=
  s.done ((((s.atPhase at_).fioPin n mv dur).fioReadback n).goodCycle)

/-- WIDTH has elapsed on the island: the other level for good (R284). -/
def State.fieldPulse (s : State) (n : Nat) : State :=
  match (s.fio n).iDrive with
  | .pulse l a w =>
      if a + w * 1000 ≤ s.now then
        let d : FDrive := if l then .off else .on
        (s.updFio n (fun c => { c with iDrive := d, drive := if c.cmdNew then c.drive else d
                                       sh := if c.shNew || c.cmdNew then c.sh else d })).refreshGates
      else s
  | _ => s

def execFieldPulseEnd (at_ : Nat) (n : Fin 16) (s : State) : Host.Outcome State Fault Refusal :=
  s.done ((s.atPhase at_).fieldPulse n)

/-- Step 1: snapshot of the mirror (R115, R274, R286). -/
def State.snapField (s : State) : State :=
  s.updField (fun f => { f with
    snapFv24 := f.fv24, snapFv24State := s.fv24, snapRun := f.st == .run
    snapEdge := tab 4 (fun k => (vget f.edge k).t)
    ch := ⟨⟨f.ch.toList.map (fun c => { c with
      snapIn := fioIn c, snapValid := c.valid, snapGate := c.gate, snapChg := c.cmdLatch
      winI := 0, winV := 0, winN := 0
      pubStat := c.diagStat, pubMeas := c.diagMeas, pubCls := c.cls, pubSampled := c.sampled && s.clk.sampled })⟩, by simp⟩ })

/-! ### Diagnostics and registers -/

def State.fioClass (s : State) (n : Nat) (limited : Bool) : Nat :=
  let c := s.fio n
  if c.rbMis || (decide (2 ≤ c.mode) && decide (2 ≤ s.fv24)) then 6
  else if c.ocLatch then 5
  else if c.ftherm then 3
  else if c.open_ then 2
  else if limited || s.fv24 = 1 then 1
  else 0

/-- FIELD_CH_STAT (R290). -/
def State.fioStat (s : State) (n : Nat) : Word :=
  let c := s.fio n
  let dr := match c.drive with | .off => 0 | .on => 1 | .pulse _ _ _ => 2
  w32 (place c.mode 0 2 + 4 * b2n c.gate + 8 * b2n (fioIn c) + 16 * b2n c.valid +
    32 * b2n c.limiting + 64 * b2n c.ocLatch + 128 * b2n c.ftherm + 256 * b2n c.open_ + 512 * b2n c.rbMis +
    1024 * b2n c.rbDir + 2048 * b2n (s.fioHeld n) + place c.cls 12 4 + place dr 16 2)
/-- FIELD_CH_MEAS. -/
def State.fioMeas (s : State) (n : Nat) : Word :=
  let c := s.fio n
  w32 (place (if c.mode < 2 then 0 else min 4095 c.iout) 0 12 + place (min 511 c.vpin) 16 9)

/-- Step 6 for one field channel; true where OPEN becomes set. A channel that is not sampled keeps what its latest
sampled frame gave (R282, R287, R290). -/
def State.sampleFio (s : State) (n : Nat) : State × Bool :=
  let c := s.fio n
  if c.mode = 0 || s.field.st != .run || (c.mode = 1 && !c.valid) then
    let s1 := s.updFio n (fun c => { c with sampled := false, limSeen := false })
    (s1.updFio n (fun c => { c with diagStat := s1.fioStat n, diagMeas := s1.fioMeas n }), false)
  else
    let iout := if c.winN = 0 then c.convI else c.winI / c.winN
    let vpin := if c.winN = 0 then c.convV else c.winV / c.winN
    let th := s.cfg (fioCfg n) 24 5 * 5
    let run := if decide (2 ≤ c.mode) && th != 0 && c.gate && decide (iout < th) then c.olRun + 1 else 0
    let set := decide (4 ≤ run)
    let s1 := s.updFio n (fun c =>
      { c with iout := iout, vpin := vpin, limiting := c.limSeen, limSeen := false, sampled := true, olRun := min run 4
               open_ := set || (c.open_ && !decide (9 * th ≤ 8 * iout)) })
    let s2 := s1.updFio n (fun c => { c with cls := s1.fioClass n c.limiting })
    (s2.updFio n (fun c => { c with diagStat := s2.fioStat n, diagMeas := s2.fioMeas n }), set && !c.open_)

/-- The FLD gate is open: from TRAINING on (R270, R275). -/
def State.fldRuns (s : State) : Bool := match s.field.st with | .training | .config | .run => true | _ => false

def islandCode : IslandSt → Nat
  | .off => 0 | .powering => 1 | .training => 2 | .config => 3 | .run => 4 | .lost => 5 | .pwrFail => 6

def State.readField (s : State) (off : Nat) : Option Word :=
  let f := s.field
  let m := fun (p : Fio → Bool) => listMask ((List.range 16).filter (fun n => p (s.fio n)))
  let n := off / 4 % 16
  if off % 4 != 0 then none
  else if off = 0 then some (s.stored 0x40060000)
  else if off = 4 then some (w32 (islandCode f.st + 8 * b2n f.locked + place s.fv24 4 2 + place f.lossCause 8 3 + place f.pwrRetries 12 2))
  else if off = 8 then some (w32 (place f.fv24 0 16 + place (f.fv24Min.getD 0) 16 16))
  else if off = 0xC then some (w32 (place f.crcDn 0 8 + place f.crcUp 8 8 + place f.losses 16 8 + place f.relocks 24 8))
  else if off = 0x10 then some (w32 (m fioIn + place (m (fun c => c.valid)) 16 16))
  else if off = 0x14 then some (w32 (m (fun c => c.regLatch)))
  else if off = 0x18 then
    some (w32 (m (fun c => c.gate) + place (listMask ((List.range 16).filter s.fioHeld)) 16 16))
  else if 0x100 ≤ off ∧ off < 0x140 then some (s.stored (0x40060000 + off))
  else if 0x140 ≤ off ∧ off < 0x180 then some (s.fioStat n)
  else if 0x180 ≤ off ∧ off < 0x1C0 then some (s.fioMeas n)
  else if 0x1C0 ≤ off ∧ off < 0x1E0 then
    let e := (off - 0x1C0) / 8
    if off % 8 = 0 then some (s.edgeT e)
    else some (w32 (b2n (vget f.edge e).dir + place (vget f.edge e).count 8 8))
  else none

end Sys2Proof.Machine
end

