-- ==== Sys2Proof/Machine/Can.lean ====
section
/-! DEFINITION. CAN: controller states and the self-test (R295, R296), acceptance and receive objects
with their locks (R297-R302), stamps (R303), the TX queue and its events (R305-R307), CAN_TX,
CAN_READ and CAN_CTRL (R305, R308, R309) and the registers (R320). -/

namespace Sys2Proof.Machine

/-! ### Helpers -/

/-- A stored register whose Reset value is 0 and whose fields have no stated range. -/
def State.regRaw (s : State) (addr : Nat) : Word := (kvGet s.svc addr).getD 0
/-- Registers of an address range taken from another list, the rest kept. -/
def adoptRange (l img : List (Nat × Word)) (lo hi : Nat) : List (Nat × Word) :=
  (img.filter (fun p => decide (lo ≤ p.1) && decide (p.1 < hi))).foldl (fun a p => kvSet a p.1 p.2)
    (l.filter (fun p => !(decide (lo ≤ p.1) && decide (p.1 < hi))))

/-- The 1 MHz counter at a TB0 time t: it runs from the first press tick of the start-up (R303). -/
def State.tscAt (s : State) (t : Nat) : Nat := if s.inRun then (t - s.clk.epoch) / 1000 % 2 ^ 32 else 0
/-- CAN_TSC. -/
def State.tsc (s : State) : Nat := s.tscAt s.now
/-- SOF stamp of a frame whose SOF edge lies `ns` before now (R303). -/
def State.sofStamp (s : State) (ns : Nat) : Nat := s.tscAt (s.now - ns)

/-- Bytes that a DLC gives (R298). -/
def dlcLen (fdf : Bool) (dlc : Nat) : Nat :=
  if dlc ≤ 8 then dlc
  else if !fdf then 8
  else match dlc with | 9 => 12 | 10 => 16 | 11 => 20 | 12 => 24 | 13 => 32 | 14 => 48 | _ => 64
/-- Words of n bytes. -/
def wordsOf (n : Nat) : Nat := (n + 3) / 4
/-- Pad a list of words with zeros to n. -/
def padTo (n : Nat) (l : List Word) : List Word := (l ++ List.replicate n 0).take n

/-- EN of controller k in service. -/
def State.canMode (s : State) (k : Nat) : Nat := s.cfg (canBase k) 2 2
def State.canFd (s : State) (k : Nat) : Bool := s.cfgBit (canBase k) 1
/-- Object o of a controller. -/
def canObj (c : Can) (o : Nat) : CanObj := (kvGet c.obj o).getD { (default : CanObj) with phys := o }
def State.updObj (s : State) (k o : Nat) (f : CanObj → CanObj) : State :=
  s.updCan k (fun c => { c with obj := kvSet c.obj o (f (canObj c o)) })
/-- A fault event of an object of controller k. -/
def objInfo (k o : Nat) : Nat := k * 256 + o

/-! ### TX queue and events (R306) -/

/-- Write a TX event, or count it where the ring is full. -/
def canEvent (c : Can) (t : CanTx) (result : Nat) : Can :=
  if c.events.length < 16 then
    { c with events := c.events ++ [(w32 (place t.tag 0 8 + place result 8 2), w32 t.sof)] }
  else { c with evOvf := satInc c.evOvf 255 }
/-- Abort every frame in the queue with a RESULT. Frames of this racking enter only at the output
update and stay (R305). -/
def canAbort (c : Can) (result : Nat) : Can :=
  let d := (c.txq.filter (·.entered)).foldl (fun a t => canEvent a t result) c
  { d with txq := c.txq.filter (fun t => !t.entered) }
/-- Rank of the arbitration field: lower wins. -/
def arbKey (t : CanTx) : Nat :=
  if t.ide then (t.id >>> 18) * 2 ^ 19 + 2 ^ 18 + t.id % 2 ^ 18 else t.id * 2 ^ 19
/-- The frame that the queue offers, among those in it since before TB0 `sof` (R306). -/
def canOffer (c : Can) (fifo : Bool) (sof : Nat) : Option CanTx :=
  (c.txq.filter (fun t => t.entered && decide (t.since ≤ sof))).foldl (fun a t =>
    match a with
    | none => some t
    | some b => if !fifo && decide (arbKey t < arbKey b) then some t else some b) none
/-- Frames of the racking enter the queue at the output update (R305). -/
def State.canEnter (s : State) : State :=
  s.forEach s.cans (fun t k => t.updCan k (fun c =>
    { c with txq := c.txq.map (fun f => if f.entered then f else { f with entered := true, since := s.now }) }))

/-! ### The ring controller (R349, R364) -/

def nmCfg : Nat := 0x400B0000
/-- Ring controller: a CTRL naming an absent controller or one with EN 0 is out of range (R364). -/
def State.nmCtrl (s : State) : Nat :=
  let k := s.cfg nmCfg 4 2
  if hasCan s.var k && s.cfgBit (canBase k) 0 then k else 0
/-- Ring frames that wait for controller k are dropped as it leaves ACTIVE and PASSIVE (R351). -/
def State.ringDrop (s : State) (k : Nat) : State :=
  if s.nmCtrl = k then { s with nm := { s.nm with toSend := [] } } else s
/-- Frames reach controller k and leave it: it is on the bus and its transceiver awake (R295, R359). -/
def State.onBus (s : State) (k : Nat) : Bool :=
  let c := s.canc k
  (c.st == .active || c.st == .passive) && !c.trxSleep
/-- Controller k can send: MODE 0 or 3 (R292), and the supply not low (R61). -/
def State.canSends (s : State) (k : Nat) : Bool :=
  s.onBus k && (s.canMode k == 0 || s.canMode k == 3) && !s.supply.low

/-! ### States (R295) -/

/-- A controller goes to DISABLED: the frame in transmission is cut and the queue aborted. -/
def State.canDisable (s : State) (k : Nat) : State :=
  (s.ringDrop k).updCan k (fun c => { canAbort c 2 with st := .disabled, recovering := false })
/-- A controller leaves DISABLED: its stored registers act from here (R320), its counters start. -/
def State.canStart (s : State) (k : Nat) : State :=
  { s with svc := adoptRange s.svc s.regs (canBase k) (canBase (k + 1)) }.updCan k (fun c =>
    { c with st := .selftest, tec := 0, rec_ := 0, recovering := false
             obj := c.obj.map (fun (o : Nat × CanObj) => (o.1, { o.2 with frameCnt := 0 })) })
/-- A load of the live image (R295): EN in the loaded registers decides. -/
def State.canLoad (s : State) (k : Nat) : State :=
  let en := bit (stActs s.regs (canBase k)) 0
  match (s.canc k).st with
  | .disabled =>
      if !en then s
      else if s.clk.failOver then s.updCan k (fun c => { c with st := .halted })
      else s.canStart k
  | _ => if en then s else s.canDisable k
/-- Fail-over is declared: every present controller is HALTED (R97). -/
def State.canHalt (s : State) : State :=
  s.forEach s.cans (fun t k => t.updCan k (fun c => { c with st := .halted, recovering := false }))

/-- TEC and REC move a controller between ACTIVE, PASSIVE and BUS_OFF (R295, R307). -/
def State.canCount (s : State) (k tec rec_ : Nat) : State :=
  let c := s.canc k
  let hi := decide (128 ≤ tec) || decide (128 ≤ rec_)
  if c.st != .active && c.st != .passive then s
  else if 256 ≤ tec then
    ((s.ringDrop k).updCan k (fun c => { canAbort c 2 with
        st := .busOff, tec := 256, rec_ := min 255 rec_, busoffCnt := satInc c.busoffCnt 255
        recovering := s.cfgBit (canBase k) 4 })).fault 0x38 k
  else
    let s1 := s.updCan k (fun c => { c with tec := tec, rec_ := min 255 rec_, st := if hi then .passive else .active })
    if c.st == .active && hi then s1.fault 0x37 k else s1

/-! ### Spares (R45, R296, R302) -/

/-- The lowest spare object that is neither used nor failed. -/
def canSpare (c : Can) : Option Nat := ((List.range 8).map (128 + ·)).find? (fun p => !c.sparesUsed.contains p)
/-- Replace object o by a spare with a ledger cause, or fail it. Its contents are lost. -/
def State.canReplace (s : State) (k o cause : Nat) : State :=
  match canSpare (s.canc k) with
  | some p =>
      let s1 := s.updCan k (fun c => { c with
        sparesUsed := insertAsc p c.sparesUsed
        obj := kvSet c.obj o { (default : CanObj) with phys := p, frameCnt := (canObj c o).frameCnt } })
      s1.record (s.ledgerEntry 4 cause k o p)
  | none =>
      let s1 := s.updObj k o (fun b => { (default : CanObj) with phys := b.phys, fail := true, frameCnt := b.frameCnt })
      s1.fault 0x3B (objInfo k o)

/-- Replacements due at this racking, ascending (R302). -/
def State.canReplaceDue (s : State) : State :=
  s.forEach s.cans (fun t k =>
    (t.canc k).obj.foldl (fun u o => match o.2.replaceDue with
      | some cause => u.canReplace k o.1 cause
      | none => u) t)

def execCanSelftestDone (at_ : Nat) (k : Fin 4) (badObjs : List Nat) (filterOk : Bool) (s : State) :
    Host.Outcome State Fault Refusal :=
  let s0 := s.atPhase at_
  s.done (
    if (s0.canc k).st != .selftest || !hasCan s0.var k then s0
    else
      let s1 := s0.updCan k (fun c => { c with
        sparesUsed := (badObjs.filter (fun p => decide (128 ≤ p) && decide (p < 136))).foldl (fun a p => insertAsc p a) c.sparesUsed })
      let s2 := (List.range 128).foldl (fun t o =>
        let b := canObj (t.canc k) o
        if !b.fail && badObjs.contains b.phys then t.canReplace k o 4 else t) s1
      if filterOk then s2.updCan k (fun c => { c with st := .integrating })
      else if (s2.canc k).filtSpare then
        (s2.updCan k (fun c => { c with st := .failed })).fault 0x36 k
      else
        (s2.updCan k (fun c => { c with st := .integrating, filtSpare := true })).record (s2.ledgerEntry 5 4 k 0 0))

def execCanIntegrated (at_ : Nat) (k : Fin 4) (s : State) : Host.Outcome State Fault Refusal :=
  let s0 := s.atPhase at_
  s.done (if (s0.canc k).st == .integrating then s0.updCan k (fun c => { c with st := .active }) else s0)

def execCanBusOffRecovered (at_ : Nat) (k : Fin 4) (s : State) : Host.Outcome State Fault Refusal :=
  let s0 := s.atPhase at_
  s.done (if (s0.canc k).st == .busOff && (s0.canc k).recovering then
    s0.updCan k (fun c => { c with st := .active, tec := 0, rec_ := 0, recovering := false }) else s0)

/-- R294: TXD dominant for 2.5 ms, or the next recessive bit. -/
def execCanTxdTimeout (at_ : Nat) (k : Fin 4) (stuck : Bool) (s : State) : Host.Outcome State Fault Refusal :=
  let s0 := s.atPhase at_
  s.done (
    if !(decide (k.val < 2) && hasCan s0.var k && s0.running) then s0
    else if stuck && !(s0.canc k).txdTimeout then
      (s0.updCan k (fun c => { c with txdTimeout := true })).fault 0x35 k
    else s0.updCan k (fun c => { c with txdTimeout := stuck }))

def execCanReceiveError (at_ : Nat) (k : Fin 4) (lec rec : Nat) (s : State) :
    Host.Outcome State Fault Refusal :=
  let s0 := s.atPhase at_
  s.done (
    if s0.onBus k then
      (s0.updCan k (fun c => { c with lec := lec % 8 })).canCount k (s0.canc k).tec rec
    else s0)

/-! ### Acceptance (R297-R299) -/

/-- A buffer that holds a received frame. -/
def canBufOf (f : CanFrame) (cnt sof : Nat) : CanBuf :=
  { id := f.id, ide := f.ide, lost := false, new := true, dlc := f.dlc % 16, fdf := f.fdf, brs := f.brs
    esi := f.esi, frameCnt := cnt, sof := sof
    data := padTo 16 (packBytes (f.data.take (dlcLen f.fdf (f.dlc % 16)))) }

/-- A frame enters an object: current where it is not locked, incoming where it is (R299). -/
def canWrite (o : CanObj) (f : CanFrame) (sof : Nat) : CanObj :=
  let n := (o.frameCnt + 1) % 65536
  let b := canBufOf f n sof
  if o.lock.isSome then
    { o with frameCnt := n, inc := some { b with lost := o.inc.any (·.new) } }
  else { o with frameCnt := n, cur := { b with lost := o.cur.new } }

/-- CAN_OBJ_CFG of object o as written. -/
def State.objCfg (s : State) (k o : Nat) : Word := s.regRaw (canBase k + 0x200 + 4 * o)
/-- The identifier that an object acts on: one that an enabled lower-numbered object already has is out of range
and acts as ID 0 (R297, R320). -/
def State.objId (s : State) (k o : Nat) : Nat :=
  let w := s.objCfg k o
  if (List.range o).any (fun q => bit (s.objCfg k q) 31 && bits (s.objCfg k q) 0 30 == bits w 0 30) then 0 else bits w 0 29
/-- The enabled object bound to an identifier. -/
def State.boundObj (s : State) (k : Nat) (f : CanFrame) : Option Nat :=
  (List.range 128).find? (fun o =>
    bit (s.objCfg k o) 31 && (bit (s.objCfg k o) 29 == f.ide) && (s.objId k o == f.id))
/-- The first enabled filter that matches. -/
def State.matchFilter (s : State) (k : Nat) (f : CanFrame) : Option Nat :=
  (List.range 16).find? (fun i =>
    let w := s.regRaw (canBase k + 0x100 + 4 * i)
    let m := s.regRaw (canBase k + 0x140 + 4 * i)
    bit w 31 && (bit w 29 == f.ide) && (((f.id ^^^ bits w 0 29) &&& bits m 0 29) == 0))

/-- R297: an object, the log, or the discard count. -/
def State.canAccept (s : State) (k : Nat) (f : CanFrame) (sof : Nat) : State :=
  match s.boundObj k f with
  | some o =>
      if (canObj (s.canc k) o).fail then s.updCan k (fun c => { c with rxDiscard := satInc c.rxDiscard 255 })
      else s.updObj k o (fun b => canWrite b f sof)
  | none =>
      match s.matchFilter k f with
      | some i =>
          if (s.canc k).log.length < 32 then
            let (w, s1) := s.fresh
            s1.updCan k (fun c => { c with log := c.log ++ [(i, canBufOf f (bits w 0 16) sof)] })
          else (s.updCan k (fun c => { c with logOvf := satInc c.logOvf 255 })).fault 0x3C k
      | none => s.updCan k (fun c => { c with rxDiscard := satInc c.rxDiscard 255 })

/-! ### Transmission -/

/-- DLC of a byte count. -/
def lenDlc (n : Nat) : Nat :=
  match n with | 12 => 9 | 16 => 10 | 20 => 11 | 24 => 12 | 32 => 13 | 48 => 14 | 64 => 15 | _ => n
/-- The frame that a loopback controller receives from itself; an FD frame of an error-passive node carries ESI 1
(R292). -/
def loopFrame (t : CanTx) (passive : Bool) (sinceSof : Nat) : CanFrame :=
  { id := t.id, ide := t.ide, dlc := lenDlc t.len, fdf := t.fdf, brs := t.brs, esi := t.fdf && passive, remote := false
    sinceSof := sinceSof, data := wordBytes t.data t.len }

/-! ### Locks (R300, R301) -/

/-- Lease length of a lock in ns: CAN_CFG(k).LOCK_TMO. -/
def State.lockNs (s : State) (k : Nat) : Nat := s.cfg (canBase k) 8 8 * 1000
/-- A declared master takes no new lease (R440). -/
def State.declaredMaster (s : State) (m : Nat) : Bool := s.flt.declared.testBit m

/-- Word w of a buffer read as object o (R298). -/
def canWord (b : CanBuf) (o : Nat) (logEntry shared : Bool) (w : Nat) : Word :=
  match w with
  | 0 => w32 (place b.id 0 29 + place (b2n b.ide) 29 1 + place (b2n b.lost) 30 1 + place (b2n b.new) 31 1)
  | 1 => w32 (place b.dlc 0 4 + place (b2n b.fdf) 4 1 + place (b2n b.brs) 5 1 + place (b2n b.esi) 6 1 +
      place (b2n shared) 7 1 + place o 8 7 + place (b2n logEntry) 15 1 + place b.frameCnt 16 16)
  | 2 => w32 b.sof
  | n => b.data[n - 3]?.getD 0
/-- Last word of an object (R298). -/
def canLast (b : CanBuf) : Nat := 2 + wordsOf (dlcLen b.fdf b.dlc)

/-- What the error code of an object buffer does on a read (R302): the object, and no word where the
error is uncorrectable. -/
def objCode (o : CanObj) (f : CodeFind) (now : Nat) : CanObj × Bool :=
  match f with
  | .clean => (o, true)
  | .one =>
      let l := (o.eccCe.filter (fun t => decide (now < t + 1000000000))) ++ [now]
      ({ o with eccCe := l, replaceDue := if 4 ≤ l.length && o.replaceDue.isNone then some 2 else o.replaceDue }, true)
  | .two _ => ({ o with replaceDue := some 3 }, false)

/-- A bus read of word w of object o by master m (R300): the word, none where it ends with a bus error. -/
def State.canReadWord (s : State) (k o w m : Nat) (f : CodeFind) : State × Option Word :=
  let b := canObj (s.canc k) o
  if b.fail then (s, none)
  else
    let (b1, ok) := objCode b f s.now
    let s1 := if f == .clean then s else s.updObj k o (fun _ => b1)
    if !ok then (s1.fault 0x3A (objInfo k o), none)
    else
      let mine := b.lock.any (fun l => l.1 == m) && !s.declaredMaster m
      let other := b.lock.isSome && !mine
      let v := canWord b.cur o false other w
      if w = 0 && !other && !s.declaredMaster m then
        (s1.updObj k o (fun b => { b with lock := some (m, s.now) }), some v)
      else if mine && w = canLast b.cur then
        (s1.updObj k o (fun b => canUnlock { b with cur := { b.cur with new := false, lost := false } }), some v)
      else (s1, some v)

def execCanLockLeaseExpiry (at_ : Nat) (k : Fin 4) (o : Fin 128) (s : State) :
    Host.Outcome State Fault Refusal :=
  let s0 := s.atPhase at_
  s.done (
    match (canObj (s0.canc k) o).lock with
    | some (m, t) =>
        if t + s0.lockNs k ≤ s0.now then
          ((s0.updObj k o canUnlock).updCan k (fun c => { c with lockExpire := satInc c.lockExpire 255 })).faults
            [blameEvent 0x39 (objInfo k o) m]
        else s0
    | none => s0)

/-! ### Registers (R320) -/

def canStCode (st : CanSt) : Nat :=
  match st with
  | .disabled => 0 | .selftest => 1 | .integrating => 2 | .active => 3 | .passive => 4
  | .busOff => 5 | .halted => 6 | .failed => 7
/-- CAN_STAT.TRX of controller k. -/
def State.canTrx (s : State) (k : Nat) : Nat :=
  if 2 ≤ k then 0
  else if (s.canc k).trxSleep then 3
  else match (s.canc k).st with
    | .disabled | .halted | .failed => 0
    | _ => if s.canMode k = 1 then 2 else 1
def State.canStat (s : State) (k : Nat) : Word :=
  let c := s.canc k
  w32 (canStCode c.st + place c.lec 4 3 + place (b2n c.txdTimeout) 7 1 + place (s.canTrx k) 8 2)
def State.canErrcnt (s : State) (k : Nat) : Word :=
  let c := s.canc k
  w32 (place c.tec 0 9 + place c.rec_ 16 8 + place c.busoffCnt 24 8)
def State.canCnt (s : State) (k : Nat) : Word :=
  let c := s.canc k
  w32 (place c.rxDiscard 0 8 + place c.logOvf 8 8 + place c.lockExpire 16 8 + place c.remote 24 8)
def State.canTxq (s : State) (k : Nat) : Word :=
  let c := s.canc k
  w32 (place (c.txq.filter (·.entered)).length 0 5 + place c.events.length 8 5 + place c.evOvf 16 8)
/-- CAN_OBJ_STAT(k, o). -/
def State.canObjStat (s : State) (k o : Nat) : Word :=
  let b := canObj (s.canc k) o
  w32 (b2n b.cur.new + 2 * b2n b.cur.lost + 4 * b2n b.lock.isSome + 8 * b2n b.fail +
    place (match b.lock with | some l => l.1 | none => 0) 4 3 + place b.phys 8 8)

/-- A CAN register but for the object words; RC fields are cleared by the caller. -/
def State.readCan (s : State) (k off : Nat) : Option Word :=
  let a := canBase k + off
  if off % 4 != 0 then none
  else match off with
    | 0x00 | 0x04 | 0x08 => some (s.stored a)
    | 0x0C => some (s.canStat k)
    | 0x10 => some (s.canErrcnt k)
    | 0x14 => some (s.canCnt k)
    | 0x18 => some (s.canTxq k)
    | 0x20 => some (w32 s.tsc)
    | 0x24 => some (w32 s.tickTsc)
    | _ =>
        if (0x100 ≤ off && off < 0x180) || (0x200 ≤ off && off < 0x400) then some (s.stored a)
        else if 0x400 ≤ off && off < 0x600 then some (s.canObjStat k ((off - 0x400) / 4))
        else none
/-- What a clearing read of a CAN register leaves (R6). -/
def State.clearCan (s : State) (k off : Nat) : State :=
  match off with
  | 0x10 => s.updCan k (fun c => { c with busoffCnt := 0 })
  | 0x14 => s.updCan k (fun c => { c with rxDiscard := 0, logOvf := 0, lockExpire := 0, remote := 0 })
  | 0x18 => s.updCan k (fun c => { c with evOvf := 0 })
  | _ => s

/-! ### Commands -/

def runCanTx (x : Ctx) (s : State) : State × Out :=
  let c := x.cmd
  let k := pf c 2 30 2
  let q := s.canc k
  let ready := (q.st == .active || q.st == .passive) && !s.clk.failOver
  if !ready || decide (16 ≤ q.txq.length) || (pb c 3 7 && !s.canFd k) then (s, outStatus 0x21)
  else
    let t : CanTx := { id := pf c 2 0 29, ide := pb c 2 29, len := pf c 3 0 7, fdf := pb c 3 7, brs := pb c 3 8
                       tag := pf c 3 16 8, single := optBit c 0, data := c.payload.drop 2
                       entered := false, since := s.now, sof := 0 }
    (s.updCan k (fun d => { d with txq := d.txq ++ [t] }),
     outWords [w32 (place t.tag 0 8 + place (q.txq.length + 1) 8 8)])

/-- Objects FIRST … of CAN_READ, read as owner and released unless another master holds the lock (R308): the state, the entries, words left, entries returned, next object. -/
def State.readObjs (s : State) (k : Nat) (onlyNew : Bool) : List Nat → Nat → State × List Word × Nat × Option Nat
  | [], _ => (s, [], 0, none)
  | o :: r, left =>
      let b := canObj (s.canc k) o
      if b.fail || (onlyNew && !b.cur.new) then State.readObjs s k onlyNew r left
      else
        let n := canLast b.cur + 1
        if left < n then (s, [], 0, some o)
        else
          let other := b.lock.any (fun l => l.1 != 0)
          let ws := (List.range n).map (canWord b.cur o false other)
          let s1 := if other then s
            else s.updObj k o (fun b => canUnlock { b with cur := { b.cur with new := false, lost := false } })
          let (s2, ws2, m, nx) := State.readObjs s1 k onlyNew r (left - n)
          (s2, ws ++ ws2, m + 1, nx)

/-- Log entries that fit in `left` words, at most n of them. -/
def takeLog : List (Nat × CanBuf) → Nat → Nat → List (Nat × CanBuf)
  | _, 0, _ => []
  | [], _, _ => []
  | e :: r, n + 1, left =>
      if left < canLast e.2 + 1 then [] else e :: takeLog r n (left - (canLast e.2 + 1))

def runCanRead (x : Ctx) (s : State) : State × Out :=
  let c := x.cmd
  let k := pf c 2 0 2
  let first := pf c 2 8 7
  let count := pf c 2 16 8
  if s.clk.failOver then (s, outStatus 0x21)
  else match pf c 2 2 2 with
    | 0 =>
        let (s1, ws, n, nx) := s.readObjs k (optBit c 0) ((List.range count).map (first + ·)) 253
        (s1, outWords (w32 (place n 0 8 + place (nx.getD (first + count)) 8 8) :: ws))
    | 1 =>
        let l := takeLog (s.canc k).log count 253
        let ws := l.flatMap (fun e => (List.range (canLast e.2 + 1)).map (canWord e.2 e.1 true false))
        let s1 := s.updCan k (fun d => { d with log := d.log.drop l.length })
        (s1, outWords (w32 (place l.length 0 8 + place (s1.canc k).log.length 8 8) :: ws))
    | _ =>
        let l := (s.canc k).events.take count
        let s1 := s.updCan k (fun d => { d with events := d.events.drop l.length })
        (s1, outWords (w32 (place l.length 0 8 + place (s1.canc k).events.length 8 8) ::
          l.flatMap (fun e => [e.1, e.2])))

def runCanCtrl (x : Ctx) (s : State) : State × Out :=
  let k := pf x.cmd 2 0 2
  let liveEn := bit (stActs s.live.regs (canBase k)) 0
  let r : Option State :=
    if s.clk.failOver then none
    else match pf x.cmd 2 8 4 with
      | 0 => some s
      | 1 => if (s.canc k).st == .busOff then some (s.updCan k (fun c => { c with recovering := true })) else none
      | 2 => some (s.updCan k (fun c => canAbort c 1))
      | _ => if liveEn then some ((s.canDisable k).canStart k) else none
  match r with
  | some t => (t, outWords [t.canStat k, t.canErrcnt k, t.canTxq k])
  | none => (s, outStatus 0x21)

end Sys2Proof.Machine
end

