-- ==== Sys2Proof/Machine/Lin.lean ====
section
/-! DEFINITION. LIN: channel states and faults (R313), frames and errors (R314), schedules (R315, R316),
publish and receive buffers (R317, R318), LIN_TX, LIN_READ, LIN_SCHED and LIN_CTRL, the sleep of group
members (R359) and the registers (R321). -/

namespace Sys2Proof.Machine

/-! ### Configuration -/

/-- LIN_ID_CFG(c, i) in service. -/
def State.linIdCfg (s : State) (c i : Nat) : Word := s.reg (linBase c + 0x100 + 4 * i)
/-- DIR of identifier i: 0 ignore, 1 publish, 2 subscribe. -/
def State.linDir (s : State) (c i : Nat) : Nat := bits (s.linIdCfg c i) 0 2
/-- LEN of identifier i. -/
def State.linLen (s : State) (c i : Nat) : Nat := bits (s.linIdCfg c i) 2 4
/-- ROLE 1: commander. -/
def State.linCmd (s : State) (c : Nat) : Bool := s.cfgBit (linBase c) 1
/-- The commander termination is on the bus: CMD_PU with ROLE 1 (R313). -/
def State.linTermination (s : State) (c : Nat) : Bool := s.cfgBit (linBase c) 2 && s.linCmd c
/-- The channel is a member of the network group (R364). -/
def State.linGroup (s : State) (c : Nat) : Bool := s.cfgBit 0x400B0008 (8 + c)

/-- A slot of TIME half milliseconds holds a frame of LEN bytes at BAUD: TIME × 0.5 ms ≥ T_max (R314,
R315). -/
def slotFits (time len baud : Nat) : Bool := decide (14000000000 * (44 + 10 * len) ≤ time * 5000000 * baud)

/-- T_max of a frame of LEN bytes in ns (R314). -/
def linMaxNs (len baud : Nat) : Nat := 1400000000 * (44 + 10 * len) / baud

/-- Slot i of table t as it acts: identifier and TIME; a field out of its stated range acts as 0
(R315, R321). -/
def State.linSlotDef (s : State) (c t i : Nat) : Nat × Nat :=
  let w := s.reg (linBase c + 0x200 + 0x80 * t + 4 * i)
  let id := if s.linDir c (bits w 0 6) = 0 then 0 else bits w 0 6
  let time := bits w 8 8
  (id, if slotFits time (s.linLen c id) (s.cfg (linBase c) 8 16) then time else 0)
/-- Slots of table t, up to the first with TIME 0. -/
def State.linTableLen (s : State) (c t : Nat) : Nat :=
  ((List.range 32).find? (fun i => (s.linSlotDef c t i).2 == 0)).getD 32

/-! ### States -/

/-- A channel goes to DISABLED: its buffers clear and its schedule stops (R319). Counters stay. -/
def linDisabled (l : Lin) : Lin :=
  { (default : Lin) with noResp := l.noResp, checksum := l.checksum, bitErr := l.bitErr, syncParity := l.syncParity }
/-- A channel leaves DISABLED: its stored registers act from here (R321). -/
def State.linStart (s : State) (c : Nat) : State :=
  { s with svc := adoptRange s.svc s.regs (linBase c) (linBase (c + 1)) }.updLin c (fun l =>
    { l with st := .idle, activeAt := s.now })
/-- A load of the live image decides by EN. -/
def State.linLoad (s : State) (c : Nat) : State :=
  let en := bit (stActs s.regs (linBase c)) 0
  match (s.linc c).st with
  | .disabled =>
      if !en then s
      else if s.clk.failOver then s.updLin c (fun l => { l with st := .halted })
      else s.linStart c
  | _ => if en then s else s.updLin c linDisabled
/-- Fail-over is declared (R97, R319). -/
def State.linHalt (s : State) : State :=
  s.forEach s.lins (fun t c => t.updLin c (fun l =>
    { l with st := .halted, switch := 0, table := 0, slot := 0, frameId := none, waking := false, goToSleep := false }))

/-- The channel is IDLE with no schedule. -/
def linIdle (l : Lin) : Lin := { l with st := .idle, table := 0, slot := 0, switch := 0, headerSent := false }

/-! ### Slots (R315-R317) -/

/-- Publish buffer of an identifier. -/
def linPub (l : Lin) (id : Nat) : LinPub := (kvGet l.pub id).getD default
/-- A frame whose break began `ago` ns before now is under way: a published one latches its buffer, and a one-shot
buffer is used up (R317). -/
def State.linBegin (s : State) (c id ago : Nat) : State :=
  let p := linPub (s.linc c) id
  let s1 := s.updLin c (fun l => { l with frameId := some id, latched := p, beganAt := s.now - ago, activeAt := s.now })
  if s.linDir c id = 1 && p.valid && p.oneShot then
    s1.updLin c (fun l => { l with pub := kvSet l.pub id { p with valid := false } })
  else s1
/-- The header of the slot in progress is sent, unless the transmitter is held off (R61). -/
def State.linHeader (s : State) (c : Nat) : State :=
  let l := s.linc c
  let s1 := s.updLin c (fun l => { l with headerSent := true, frameId := none })
  if s.supply.low then s1 else s1.linBegin c (s.linSlotDef c l.table l.slot).1 0
/-- The output update: the publish buffers take the data of LIN_TX, and a schedule started in the racking
sends its first header (R316, R317). -/
def State.linOutput (s : State) : State :=
  s.forEach s.lins (fun t c =>
    let t1 := t.updLin c (fun l => { l with todo := [], pub := l.todo.foldl (fun p x => kvSet p x.1 x.2) l.pub })
    if (t1.linc c).st == .running && !(t1.linc c).headerSent then
      (t1.updLin c (fun l => { l with slotAt := t1.now })).linHeader c
    else t1)

/-- The go-to-sleep frame: ID 0x3C, 0x00 and seven 0xFF (R359). -/
def sleepPub : LinPub := { w0 := 0xFFFFFF00, w1 := 0xFFFFFFFF, valid := true, oneShot := false }
/-- A stopped commander of the group sends the go-to-sleep frame. -/
def State.linGoToSleep (s : State) (c : Nat) : State :=
  s.updLin c (fun l => { l with frameId := some 0x3C, latched := sleepPub, beganAt := s.now, goToSleep := true })

/-- The slot in progress ends: stop, a pending switch, or the next slot. -/
def State.linNextSlot (s : State) (c : Nat) : State :=
  let l := s.linc c
  let start := l.slotAt + (s.linSlotDef c l.table l.slot).2 * 500000
  let wrap := decide (s.linTableLen c l.table ≤ l.slot + 1)
  if l.switch = 3 then
    let s1 := s.updLin c (fun l => { linIdle l with st := if l.st == .fault then .fault else .idle, prev := .idle, frameId := none })
    if l.goToSleep then s1.linGoToSleep c else s1
  else
    let sw := l.switch = 1 || (l.switch = 2 && wrap)
    let s1 := s.updLin c (fun l => { l with
      slotAt := start, headerSent := l.st != .running
      table := if sw then l.swTable else l.table
      slot := if sw then l.swSlot else if wrap then 0 else l.slot + 1
      switch := if sw then 0 else l.switch })
    if l.st == .running then s1.linHeader c else s1

/-- A slot of a running schedule starts. In FAULT the slots go by in silence. -/
def execLinSlotStart (at_ : Nat) (c : Fin 6) (s : State) : Host.Outcome State Fault Refusal :=
  let s0 := s.atPhase at_
  let l := s0.linc c
  let live := l.st == .running || (l.st == .fault && l.prev == .running)
  s.done (
    if live && decide (l.slotAt + (s0.linSlotDef c l.table l.slot).2 * 500000 ≤ s0.now)
    then s0.linNextSlot c else s0)

/-! ### Reception (R314, R318) -/

/-- Receive buffer of an identifier. -/
def linRx (l : Lin) (id : Nat) : LinBuf := (kvGet l.rx id).getD default
def State.updRx (s : State) (c id : Nat) (f : LinBuf → LinBuf) : State :=
  s.updLin c (fun l => { l with rx := kvSet l.rx id (f (linRx l id)) })
/-- An entry goes into a receive buffer as R299 gives. -/
def linStore (b : LinBuf) (e : LinRx) : LinBuf :=
  if b.lock.isSome then { b with inc := some { e with lost := b.inc.any (·.new) } }
  else { b with cur := { e with lost := b.cur.new } }
/-- LIN_ERR counts an error record. -/
def linCount (l : Lin) (err : Nat) : Lin :=
  match err with
  | 1 | 2 => { l with noResp := satInc l.noResp 255 }
  | 3 => { l with checksum := satInc l.checksum 255 }
  | 4 | 5 => { l with bitErr := satInc l.bitErr 255 }
  | _ => l
/-- Protected identifier: the identifier with its two parity bits (R312). -/
def linPid (id : Nat) : Nat :=
  let b := fun i => id.testBit i
  id % 64 + (if (b 0 != b 1) != (b 2 != b 4) then 64 else 0) + (if (b 1 != b 3) != (b 4 != b 5) then 0 else 128)
/-- Checksum of a frame (R312): the inverted sum with carry of its data, and of its PID in the enhanced form. -/
def linSum (id : Nat) (enhanced : Bool) (data : List Byte) : Byte :=
  let t := data.foldl (fun a b => let x := a + b.toNat; if 255 < x then x - 255 else x) (if enhanced then linPid id else 0)
  BitVec.ofNat 8 (255 - t)
/-- Checksum type of identifier id: classic for the diagnostic ones (R312, R321). -/
def State.linEnhanced (s : State) (c id : Nat) : Bool := bit (s.linIdCfg c id) 6 && id != 0x3C && id != 0x3D
/-- ERR of a frame on identifier id (R314): a bit error while transmitting, a framing error, and for a response that is
received an incomplete one or a checksum that does not fit. -/
def State.linErrOf (s : State) (c id : Nat) (data : List Byte) (sum : Option Byte) (bitErr framing : Bool) : Nat :=
  if bitErr then 4
  else if framing then 5
  else if s.linDir c id = 1 then 0
  else if data.length < s.linLen c id || sum.isNone then 2
  else if sum != some (linSum id (s.linEnhanced c id) data) then 3
  else 0

/-- A frame or an error on identifier id is recorded at the end of the frame, ERR 1 at T_max (R318); an ignored identifier
records nothing. -/
def State.linRecord (s : State) (c id err : Nat) (data : List Byte) : State :=
  let len := s.linLen c id
  let ended := if err = 1 then (s.linc c).beganAt + linMaxNs len (s.cfg (linBase c) 8 16) else s.now
  let d := if err = 0 then padTo 2 (packBytes (data.take len)) else [0, 0]
  let e : LinRx := { len := len, err := err, lost := false, new := true, t := ended % 2 ^ 32
                     w0 := d[0]?.getD 0, w1 := d[1]?.getD 0 }
  let s1 := s.updLin c (fun l =>
    { (if s.linDir c id = 0 then l else linCount l err) with frameId := none, activeAt := s.now })
  let s2 := if s.linDir c id = 2 then s1.updRx c id (fun b => linStore b e) else s1
  if err = 1 then s2.fault 0x3F (c * 256 + id) else s2

/-- The channel takes part in frames. -/
def linLive (l : Lin) : Bool := l.st == .idle || l.st == .running
/-- Data of the go-to-sleep frame. -/
def isSleepData (data : List Byte) : Bool := data == [0x00, 0xFF, 0xFF, 0xFF, 0xFF, 0xFF, 0xFF, 0xFF]

/-- The frame in progress ends, with the data and the checksum that the channel has seen (R314, R318). -/
def execLinFrameReceived (at_ : Nat) (c : Fin 6) (data : List Byte) (sum : Option Byte) (e : LinErrIn) (s : State) :
    Host.Outcome State Fault Refusal :=
  let s0 := s.atPhase at_
  let l := s0.linc c
  s.done (match l.frameId with
    | none => s0
    | some id =>
        if !linLive l then s0
        else
          let err := s0.linErrOf c id data sum e.bit e.framing
          let s1 := s0.linRecord c id err data
          if err = 0 && id == 0x3C && isSleepData data && !s0.linCmd c && s0.linGroup c then
            s1.updLin c (fun l => { l with st := .sleep })
          else s1)

/-- T_max has passed since the break with no response byte (R314). -/
def execLinNoResponse (at_ : Nat) (c : Fin 6) (s : State) : Host.Outcome State Fault Refusal :=
  let s0 := s.atPhase at_
  let l := s0.linc c
  s.done (match l.frameId with
    | some id =>
        if linLive l && s0.linDir c id = 2 &&
            decide (l.beganAt + linMaxNs (s0.linLen c id) (s0.cfg (linBase c) 8 16) ≤ s0.now)
        then s0.linRecord c id 1 [] else s0
    | none => s0)

/-- A responder receives a header: its protected identifier and whether the sync field is good (R314). The break is
taken to have begun 34 bit times before (log 111). -/
def execLinHeaderReceived (at_ : Nat) (c : Fin 6) (pid : Fin 256) (sync : Bool) (s : State) :
    Host.Outcome State Fault Refusal :=
  let s0 := s.atPhase at_
  let l := s0.linc c
  let id := pid.val % 64
  s.done (
    if l.st != .idle || s0.linCmd c then s0
    else if !sync || linPid id != pid.val then
      s0.updLin c (fun l => { l with syncParity := satInc l.syncParity 255, frameId := none, activeAt := s0.now })
    else if s0.linDir c id = 1 && !(linPub l id).valid then
      s0.updLin c (fun l => { l with frameId := none, activeAt := s0.now })
    else s0.linBegin c id (34000000000 / s0.cfg (linBase c) 8 16))

/-! ### Faults (R313) -/

def execLinShort (at_ : Nat) (c : Fin 6) (s : State) : Host.Outcome State Fault Refusal :=
  let s0 := s.atPhase at_
  let l := s0.linc c
  s.done (
    if linLive l || l.st == .sleep then
      (s0.updLin c (fun l => { l with st := .fault, prev := l.st, since := s0.now, frameId := none, waking := false })).fault 0x3D c
    else s0)

def execLinFaultRetry (at_ : Nat) (c : Fin 6) (recessive : Bool) (s : State) :
    Host.Outcome State Fault Refusal :=
  let s0 := s.atPhase at_
  let l := s0.linc c
  s.done (
    if l.st == .fault && decide (l.since + 100000000 ≤ s0.now) then
      s0.updLin c (fun l => { l with since := l.since + 100000000, st := if recessive then l.prev else .fault })
    else s0)

/-! ### Locks (R318) -/

/-- Word w of receive buffer id. -/
def linWord (b : LinRx) (id w : Nat) : Word :=
  if b == default then 0
  else match w with
    | 0 => w32 (place id 0 6 + place b.len 8 4 + place b.err 12 3 + place (b2n b.lost) 30 1 + place (b2n b.new) 31 1)
    | 1 => w32 b.t
    | 2 => b.w0
    | _ => b.w1

/-- A bus read of word w of LIN_RXBUF(c, id) by master m. -/
def State.linReadWord (s : State) (c id w m : Nat) : State × Word :=
  let b := linRx (s.linc c) id
  let mine := b.lock.any (fun l => l.1 == m) && !s.declaredMaster m
  let v := linWord b.cur id w
  if w = 0 && (mine || b.lock.isNone) && !s.declaredMaster m then
    (s.updRx c id (fun b => { b with lock := some (m, s.now) }), v)
  else if w = 3 && mine then
    (s.updRx c id (fun b => linUnlock { b with cur := { b.cur with new := false, lost := false } }), v)
  else (s, v)

def execLinBufferLeaseExpiry (at_ : Nat) (c : Fin 6) (id : Fin 64) (s : State) :
    Host.Outcome State Fault Refusal :=
  let s0 := s.atPhase at_
  s.done (
    match (linRx (s0.linc c) id).lock with
    | some (m, t) =>
        if t + s0.lockNs 0 ≤ s0.now then
          (s0.updRx c id linUnlock).faults [blameEvent 0x3E (c.val * 256 + id.val) m]
        else s0
    | none => s0)

/-! ### Sleep of group members (R359) -/

def execLinBusInactivity (at_ : Nat) (c : Fin 6) (s : State) : Host.Outcome State Fault Refusal :=
  let s0 := s.atPhase at_
  let l := s0.linc c
  s.done (
    if l.st == .idle && !s0.linCmd c && s0.linGroup c && decide (l.activeAt + 4000000000 ≤ s0.now) then
      s0.updLin c (fun l => { l with st := .sleep, frameId := none })
    else s0)

def execLinIdleAfterWake (at_ : Nat) (c : Fin 6) (s : State) : Host.Outcome State Fault Refusal :=
  let s0 := s.atPhase at_
  let l := s0.linc c
  s.done (
    if l.st == .sleep && l.waking && decide (l.since + 150000000 ≤ s0.now) then
      s0.updLin c (fun l => { linIdle l with waking := false, activeAt := s0.now })
    else s0)

/-- Entry to WAIT_SLEEP: a commander stops at the end of its slot, then sends the go-to-sleep frame. -/
def State.linToWait (s : State) (c : Nat) : State :=
  if !s.linCmd c then s
  else match (s.linc c).st with
    | .running => s.updLin c (fun l => { l with switch := 3, goToSleep := true })
    | .idle => s.linGoToSleep c
    | _ => s
/-- BUS_SLEEP: SLEEP. -/
def State.linToSleep (s : State) (c : Nat) : State :=
  match (s.linc c).st with
  | .disabled | .halted => s
  | _ => s.updLin c (fun l => { linIdle l with st := .sleep, frameId := none, goToSleep := false, waking := false })
/-- Wake: a commander sends a wake pulse and is IDLE 150 ms later, a responder is IDLE. -/
def State.linWake (s : State) (c : Nat) : State :=
  if (s.linc c).st != .sleep then s
  else if s.linCmd c then s.updLin c (fun l => { l with waking := true, since := s.now })
  else s.updLin c (fun l => { linIdle l with activeAt := s.now })

/-! ### Registers (R321) -/

def linStCode (st : LinSt) : Nat :=
  match st with
  | .disabled => 0 | .idle => 1 | .running => 2 | .sleep => 3 | .fault => 4 | .halted => 5
def State.linStat (s : State) (c : Nat) : Word :=
  let l := s.linc c
  w32 (linStCode l.st + place l.table 3 1 + place l.slot 4 5 + place l.switch 16 2)
def State.linErr (s : State) (c : Nat) : Word :=
  let l := s.linc c
  w32 (place l.noResp 0 8 + place l.checksum 8 8 + place l.bitErr 16 8 + place l.syncParity 24 8)

/-- A LIN register but for the receive buffers. -/
def State.readLin (s : State) (c off : Nat) : Option Word :=
  let a := linBase c + off
  if off % 4 != 0 then none
  else match off with
    | 0x0 => some (s.stored a)
    | 0x4 => some (s.linStat c)
    | 0x8 => some (s.linErr c)
    | _ =>
        if 0x100 ≤ off && off < 0x300 then some (s.stored a)
        else if 0x800 ≤ off && off < 0xA00 then
          let p := linPub (s.linc c) ((off - 0x800) / 8)
          some (if off % 8 = 0 then p.w0 else p.w1)
        else none
/-- What a clearing read leaves. -/
def State.clearLin (s : State) (c off : Nat) : State :=
  if off = 8 then s.updLin c (fun l => { l with noResp := 0, checksum := 0, bitErr := 0, syncParity := 0 }) else s

/-! ### Commands -/

def runLinTx (x : Ctx) (s : State) : State × Out :=
  let c := pf x.cmd 2 0 3
  let id := pf x.cmd 2 8 6
  if s.clk.failOver || s.linDir c id != 1 || s.linLen c id != pf x.cmd 2 16 4 then (s, outStatus 0x21)
  else
    let p : LinPub := { w0 := pw x.cmd 3, w1 := pw x.cmd 4, valid := true, oneShot := optBit x.cmd 0 }
    (s.updLin c (fun l => { l with todo := kvSet l.todo id p }), outStatus 0)

/-- Buffers of LIN_READ: the state, the entries, how many. -/
def State.readRx (s : State) (c : Nat) (onlyNew : Bool) : List Nat → Nat → State × List Word × Nat
  | [], _ => (s, [], 0)
  | _, 0 => (s, [], 0)
  | id :: r, left + 1 =>
      let b := linRx (s.linc c) id
      if onlyNew && !b.cur.new then State.readRx s c onlyNew r (left + 1)
      else
        let ws := (List.range 4).map (linWord b.cur id)
        let s1 := if b.lock.any (fun l => l.1 != 0) || b == default then s
          else s.updRx c id (fun b => linUnlock { b with cur := { b.cur with new := false, lost := false } })
        let (s2, ws2, n) := State.readRx s1 c onlyNew r left
        (s2, ws ++ ws2, n + 1)

def runLinRead (x : Ctx) (s : State) : State × Out :=
  if s.clk.failOver then (s, outStatus 0x21)
  else
    let (s1, ws, n) := s.readRx (pf x.cmd 2 0 3) (optBit x.cmd 0)
      ((List.range (pf x.cmd 2 16 7)).map (pf x.cmd 2 8 6 + ·)) 63
    (s1, outWords (w32 n :: ws))

def runLinSched (x : Ctx) (s : State) : State × Out :=
  let c := pf x.cmd 2 0 3
  let act := pf x.cmd 2 8 2
  let t := pf x.cmd 2 12 1
  let sl := pf x.cmd 2 16 5
  let l := s.linc c
  let bad := s.clk.failOver || !s.linCmd c || !linLive l || (act != 0 && decide (s.linTableLen c t ≤ sl))
  if bad then (s, outStatus 0x21)
  else
    let start := fun (l : Lin) =>
      { l with st := .running, table := t, slot := sl, switch := 0, slotAt := s.now, headerSent := false, frameId := none, goToSleep := false }
    let s1 := s.updLin c (fun l =>
      match act with
      | 1 => start l
      | 0 => if l.st == .running then { l with switch := 3 } else l
      | a =>
          if l.st == .running then { l with switch := a - 1, swTable := t, swSlot := sl }
          else start l)
    (s1, outWords [s1.linStat c])

def runLinCtrl (x : Ctx) (s : State) : State × Out :=
  let c := pf x.cmd 2 0 3
  if s.clk.failOver then (s, outStatus 0x21)
  else
    let s1 := if pf x.cmd 2 8 4 = 1 then
        (let t := s.updLin c linDisabled
         if bit (stActs t.regs (linBase c)) 0 then t.linStart c else t)
      else s
    (s1, outWords [s1.linStat c, s1.linErr c])

end Sys2Proof.Machine
end

