-- ==== Sys2Proof/Machine/T1s.lean ====
section
/-! DEFINITION. 10BASE-T1S and TIME: port states (R324), PLCA (R325), frames and their stamps
(R327-R336), the time bases (R330-R333), Sync supervision (R337), the T1S and TIME commands
(R339-R345) and the registers (R347, R348). -/

namespace Sys2Proof.Machine

/-! ### Time bases -/

/-- A time base at TB0 time t, in units of 2^-40 ns (R332). -/
def tbValue (b : TimeBase) (t : Nat) : Int :=
  if b.at_ ≤ t then b.val + ((t - b.at_ : Nat) : Int) * (2 ^ 40 + b.rate)
  else match b.hist.find? (fun h => decide (h.1 ≤ t)) with
    | some h => h.2.1 + ((t - h.1 : Nat) : Int) * (2 ^ 40 + h.2.2)
    | none => b.val - ((b.at_ - t : Nat) : Int) * (2 ^ 40 + b.rate)
/-- A 64-bit count of nanoseconds. -/
def tbNs (v : Int) : Nat := (v / 2 ^ 40 % 2 ^ 64).toNat
def State.tbase (s : State) (i : Nat) : TimeBase := vget s.tim.tb (i - 1)
def State.updTb (s : State) (i : Nat) (f : TimeBase → TimeBase) : State :=
  { s with tim := { s.tim with tb := vupd s.tim.tb (i - 1) f } }
/-- TBi at TB0 time t, as a 64-bit count. -/
def State.tbAt (s : State) (i t : Nat) : Nat := if i = 0 then t % 2 ^ 64 else tbNs (tbValue (s.tbase i) t)

/-- A new stretch of a base from t on. -/
def tbSegment (b : TimeBase) (t : Nat) (val rate : Int) : TimeBase :=
  { b with at_ := t, val := val, rate := rate, hist := ((b.at_, b.val, b.rate) :: b.hist).take 16 }
/-- An adjustment at TB0 time t (R345). -/
def tbAdjust (b : TimeBase) (a : TimeAdj) (t : Nat) : TimeBase :=
  let v := tbValue b t
  match a.op with
  | 0 => tbSegment b t v a.rate
  | 1 => tbSegment b t (v + a.offset * 2 ^ 40) b.rate
  | 2 => tbSegment b t (a.offset * 2 ^ 40) b.rate
  | _ => tbSegment b t (v + a.offset * 2 ^ 40) a.rate
/-- The adjustments of the racking apply at the output update, in execution order (R345). -/
def State.timeOutput (s : State) : State :=
  { s.adj.foldl (fun t a => t.updTb a.base (fun b => tbAdjust b a s.now)) s with adj := [] }

/-- TIME_TB_CFG(i) in service. -/
def tbCfg (i : Nat) : Nat := 0x400A0040 + 0x10 * i
def State.tbPort (s : State) (i : Nat) : Nat := s.cfg (tbCfg i) 0 2
def State.tbDomain (s : State) (i : Nat) : Nat := s.cfg (tbCfg i) 8 7

/-- TB0–TB3 at the press tick (R348). -/
def State.tickTime_ (s : State) : State :=
  { s with tim := { s.tim with tick := tab 4 (fun i => s.tbAt i s.now) } }

/-- A bottling binds or unbinds the bases (R337). -/
def State.bindBases (s : State) : State :=
  s.forEach [1, 2, 3] (fun t i => t.updTb i (fun b =>
    if t.tbPort i = 0 then { b with sync := .none_ }
    else if b.sync == SyncSt.none_ then { b with sync := .waiting, ageFrom := s.now } else b))
/-- Start-up and Park exit (R337): a bound base is WAITING. -/
def State.syncRestart (s : State) : State :=
  s.forEach [1, 2, 3] (fun t i => t.updTb i (fun b =>
    if b.sync == SyncSt.none_ then b else { b with sync := .waiting, ageFrom := s.now }))
/-- A Sync on the bound port and domain. -/
def State.syncSeen (s : State) (i : Nat) : State :=
  s.updTb i (fun b => if b.sync == SyncSt.none_ then b else { b with sync := .tracking, ageFrom := s.now })

def execSyncTimeout (at_ : Nat) (i : Fin 4) (s : State) : Host.Outcome State Fault Refusal :=
  let s0 := s.atPhase at_
  let b := s0.tbase i
  let tmo := s0.cfg (tbCfg i) 16 12
  s.done (
    if i.val != 0 && b.sync == .tracking && tmo != 0 && decide (b.ageFrom + tmo * 1000000 ≤ s0.now) then
      (s0.updTb i (fun b => { b with sync := .holdover, losses := satInc b.losses 255 })).fault 0x44 i
    else s0)

/-! ### Port states -/

def State.t1sCfg (s : State) (p lo w : Nat) : Nat := s.cfg (t1sBase p) lo w
/-- PLCA coordinator: PLCA_EN 1 and NODE_ID 0 (R325). -/
def State.coordinator (s : State) (p : Nat) : Bool := s.t1sCfg p 1 1 == 1 && s.t1sCfg p 8 3 == 0
def State.follower (s : State) (p : Nat) : Bool := s.t1sCfg p 1 1 == 1 && s.t1sCfg p 8 3 != 0

/-- Word 0 of a TX stamp entry (R336). -/
def tsqWord0 (frameId p result base : Nat) : Word :=
  w32 (place frameId 0 8 + place p 8 1 + place result 9 1 + place base 10 2)
/-- An entry goes into the TX stamp queue, or is dropped and counted where it is full (R336). -/
def State.tsqPush (s : State) (p : Nat) (e : Word × Word × Word) : State :=
  if (s.ts p).tsq.length < 8 then s.updT1s p (fun t => { t with tsq := t.tsq ++ [e] })
  else (s.updT1s p (fun t => { t with tsqOvf := satInc t.tsqOvf 255 })).fault 0x43 p
/-- A frame of the TX queue is aborted (R329). -/
def State.t1sAbortOne (s : State) (p : Nat) (f : T1sTx) : State :=
  let s1 := s.updT1s p (fun t => { t with txAbort := satInc t.txAbort 255 })
  if f.stamp then s1.tsqPush p (tsqWord0 f.frameId p 1 0, 0, 0) else s1
/-- Abort the frames in the TX queue; frames of this racking enter only at the output update. -/
def State.t1sAbort (s : State) (p : Nat) : State :=
  let q := (s.ts p).txq
  let s1 := (q.filter (·.entered)).foldl (fun t f => t.t1sAbortOne p f) s
  s1.updT1s p (fun t => { t with txq := q.filter (fun f => !f.entered) })

/-- A port leaves DISABLED: its stored registers act from here (R347). -/
def State.t1sStart (s : State) (p : Nat) : State :=
  { s with svc := adoptRange s.svc s.regs (t1sBase p) (t1sBase (p + 1)) }.updT1s p (fun t =>
    { t with st := .starting, plcaOk := false, sentAt := 0, burst := 0 })
def State.t1sDisable (s : State) (p : Nat) : State :=
  (s.t1sAbort p).updT1s p (fun t => { t with st := .disabled, plcaOk := false })
/-- A load of the live image decides by EN (R324). -/
def State.t1sLoad (s : State) (p : Nat) : State :=
  let en := bit (stActs s.regs (t1sBase p)) 0
  match (s.ts p).st with
  | .disabled =>
      if !en then s
      else if s.clk.failOver then s.updT1s p (fun t => { t with st := .halted })
      else s.t1sStart p
  | _ => if en then s else s.t1sDisable p
/-- Fail-over is declared (R97, R329). -/
def State.t1sHalt (s : State) : State :=
  s.forEach s.ports (fun t p => (t.t1sAbort p).updT1s p (fun t => { t with st := .halted, plcaOk := false }))

def execT1sPortStarted (at_ : Nat) (p : Fin 2) (s : State) : Host.Outcome State Fault Refusal :=
  let s0 := s.atPhase at_
  s.done (if (s0.ts p).st == .starting then
    s0.updT1s p (fun t => { t with st := .run, plcaOk := s0.coordinator p }) else s0)

def execPlcaBeaconReceived (at_ : Nat) (p : Fin 2) (s : State) : Host.Outcome State Fault Refusal :=
  let s0 := s.atPhase at_
  s.done (
    if (s0.ts p).st != .run then s0
    else if s0.coordinator p then (s0.updT1s p (fun t => { t with bcnDup := satInc t.bcnDup 255 })).fault 0x40 p
    else if s0.follower p then s0.updT1s p (fun t => { t with plcaOk := true, beaconAt := s0.now })
    else s0)

def execPlcaBeaconTimeout (at_ : Nat) (p : Fin 2) (s : State) : Host.Outcome State Fault Refusal :=
  let s0 := s.atPhase at_
  let t := s0.ts p
  s.done (
    if t.st == .run && s0.follower p && t.plcaOk && decide (t.beaconAt + 400000 ≤ s0.now) then
      (s0.updT1s p (fun t => { t with plcaOk := false, plcaLoss := satInc t.plcaLoss 255 })).fault 0x41 p
    else s0)

/-! ### Frames -/

def byteAt (l : List Byte) (i : Nat) : Nat := (l[i]?.getD 0).toNat
/-- The frame carries one VLAN tag. -/
def vlanTagged (l : List Byte) : Bool := byteAt l 12 == 0x81 && byteAt l 13 == 0x00
/-- Length with the FCS lies in the range of R322. -/
def frameLenOk (l : List Byte) : Bool :=
  decide (64 ≤ l.length + 4) && decide (l.length + 4 ≤ if vlanTagged l then 1522 else 1518)
/-- An address of six bytes equals a LO and a HI word. -/
def addrIs (l : List Byte) (lo hi : Word) : Bool :=
  l.take 6 == [byteOf lo 0, byteOf lo 1, byteOf lo 2, byteOf lo 3, byteOf hi 0, byteOf hi 1]
/-- The destination is accepted (R327). -/
def State.destOk (s : State) (p : Nat) (l : List Byte) : Bool :=
  s.t1sCfg p 3 1 == 1 || addrIs l (s.reg (t1sBase p + 8)) (s.reg (t1sBase p + 0xC)) ||
  addrIs l 0xFFFFFFFF 0xFFFF ||
  (List.range 8).any (fun m =>
    let hi := s.reg (t1sBase p + 0x104 + 8 * m)
    bit hi 31 && addrIs l (s.reg (t1sBase p + 0x100 + 8 * m)) hi)

/-- A PTP frame (R335). -/
def isPtp (l : List Byte) : Bool := byteAt l 12 == 0x88 && byteAt l 13 == 0xF7
/-- Base bound to the port and the domain of a PTP frame, 0 none (R335). -/
def State.boundBase (s : State) (p : Nat) (l : List Byte) : Nat :=
  if isPtp l then
    ([1, 2, 3].find? (fun i => s.tbPort i == p + 1 && s.tbDomain i == byteAt l 18)).getD 0
  else 0
/-- Stamps of a frame whose start-frame delimiter passed `since` ns ago, moved by `corr` where CORR_EN is
1 (R334): TB0 and the bound base. -/
def State.stamps (s : State) (p base since : Nat) (corr : Int) : Nat × Nat :=
  let t := s.now - since
  let d := if s.t1sCfg p 2 1 = 1 then corr else 0
  let f := fun (v : Nat) => (((v : Int) + d) % 2 ^ 32).toNat
  (f t, if base = 0 then 0 else f (s.tbAt base t))

/-- Bytes in the receive ring. -/
def ringBytes (l : List T1sRx) : Nat := l.foldl (fun a f => a + f.bytes.length) 0

def execT1sFrameReceived (at_ : Nat) (p : Fin 2) (bytes : List Byte) (fcsOk : Bool) (sinceSfd : Nat)
    (s : State) : Host.Outcome State Fault Refusal :=
  let s0 := s.atPhase at_
  s.done (
    if (s0.ts p).st != .run then s0
    else
      let s1 := s0.updT1s p (fun t => { t with
        fcsErr := if fcsOk then t.fcsErr else satInc t.fcsErr 255
        lenErr := if frameLenOk bytes then t.lenErr else satInc t.lenErr 255 })
      if !fcsOk || !frameLenOk bytes || !s1.destOk p bytes then s1
      else
        let base := s1.boundBase p bytes
        let st := s1.stamps p base sinceSfd (-760)
        let s2 := if base != 0 && byteAt bytes 14 % 16 = 0 then s1.syncSeen base else s1
        let f : T1sRx := { len := bytes.length, base := base, tb0 := st.1, tbi := st.2, bytes := bytes }
        if (s2.ts p).ring.length < 16 && ringBytes (s2.ts p).ring + bytes.length ≤ 8192 then
          s2.updT1s p (fun t => { t with ring := t.ring ++ [f] })
        else (s2.updT1s p (fun t => { t with rxOvf := satInc t.rxOvf 255 })).fault 0x42 p)

/-- The port has its transmit opportunities (R325). -/
def State.plcaOn (s : State) (p : Nat) : Bool := s.t1sCfg p 1 1 == 1 && (s.ts p).plcaOk
/-- `n` bit times of 10 Mbit/s in ns. -/
def t1sBits (n : Nat) : Nat := n * 100
/-- An idle PLCA cycle in ns: the BEACON of 20 bit times and NODE_CNT opportunities of TO_TMR bit times (R325). -/
def State.idleCycleNs (s : State) (p : Nat) : Nat := t1sBits (20 + s.t1sCfg p 12 4 * s.t1sCfg p 16 8)
/-- TB0 at which the frame began whose start-frame delimiter passed `since` ns ago: preamble and delimiter are 64 bit
times (log 112). -/
def State.frameBegan (s : State) (since : Nat) : Nat := s.now - since - t1sBits 64
/-- A frame that began at `t` lies in an opportunity of the port (R325): a further frame within BURST_TMR bit times of the
end of the one before and at most MAX_BC of them, or the first frame of an opportunity, which each lower-numbered node
puts off by at least TO_TMR bit times from the BEACON, and for a coordinator the other nodes and a BEACON from its own
latest frame. -/
def State.ownOpportunity (s : State) (p : Nat) (more : Bool) (t : Nat) : Bool :=
  let q := s.ts p
  let plca := s.reg (t1sBase p + 4)
  if more then
    decide (q.sentAt ≠ 0) && decide (q.burst < bits plca 0 8) &&
      decide (t ≤ q.sentAt + t1sBits (s.cfg (t1sBase p + 4) 8 8))
  else if s.coordinator p then
    q.sentAt == 0 || decide (q.sentAt + t1sBits (20 + (s.t1sCfg p 12 4 - 1) * s.t1sCfg p 16 8) ≤ t)
  else decide (q.beaconAt + t1sBits (s.t1sCfg p 8 3 * s.t1sCfg p 16 8) ≤ t)

/-- The frame at the head of the TX queue has been sent, or has failed its 16th attempt (R326, R336). With PLCA it was
sent in an opportunity of the port, with `more` in that of the frame before. -/
def execT1sFrameSent (at_ : Nat) (p : Fin 2) (e : SendEnd) (collisions sinceSfd : Nat) (s : State) :
    Host.Outcome State Fault Refusal :=
  let s0 := s.atPhase at_
  let t := s0.ts p
  let csma := !s0.plcaOn p
  s.done (
    if t.st != .run || s0.supply.low || (!e.sent && !csma) ||
        (!csma && !s0.ownOpportunity p e.more (s0.frameBegan sinceSfd)) then s0
    else match t.txq.find? (·.entered) with
      | none => s0
      | some f =>
          let s1 := s0.updT1s p (fun t => { t with
            txq := t.txq.erase f, coll := if csma then satAdd t.coll collisions 255 else t.coll
            sentAt := if e.sent then s0.now else t.sentAt, burst := if e.sent && e.more && !csma then t.burst + 1 else 0 })
          if !e.sent then s1.t1sAbortOne p f
          else if f.stamp then
            let base := s1.boundBase p f.bytes
            let st := s1.stamps p base sinceSfd 560
            s1.tsqPush p (tsqWord0 f.frameId p 0 base, w32 st.1, w32 st.2)
          else s1)

/-- Frames of the racking enter the queue at the output update (R340). -/
def State.t1sEnter (s : State) : State :=
  s.forEach s.ports (fun t p => t.updT1s p (fun u => { u with txq := u.txq.map (fun f => { f with entered := true }) }))

/-- BUS_SLEEP and wake of a group port (R359). -/
def State.t1sToSleep (s : State) (p : Nat) : State :=
  match (s.ts p).st with
  | .run | .starting => s.updT1s p (fun t => { t with st := .sleep, plcaOk := false })
  | _ => s
def State.t1sWake (s : State) (p : Nat) : State :=
  if (s.ts p).st == .sleep then s.updT1s p (fun t => { t with st := .starting }) else s

/-! ### Registers -/

def State.t1sStat (s : State) (p : Nat) : Word :=
  let t := s.ts p
  let st := match t.st with | .disabled => 0 | .starting => 1 | .run => 2 | .sleep => 3 | .halted => 4
  w32 (st + place (b2n t.plcaOk) 4 1 + place (b2n (t.st == .run && s.coordinator p)) 5 1 +
    place (t.txq.filter (·.entered)).length 8 3 + place t.ring.length 16 5)
def State.t1sCnt (s : State) (p : Nat) : Word :=
  let t := s.ts p
  w32 (place t.rxOvf 0 8 + place t.fcsErr 8 8 + place t.lenErr 16 8 + place t.coll 24 8)
def State.t1sCnt2 (s : State) (p : Nat) : Word :=
  let t := s.ts p
  w32 (place t.plcaLoss 0 8 + place t.bcnDup 8 8 + place t.txAbort 16 8)
def State.t1sTsq (s : State) (p : Nat) : Word :=
  w32 (place (s.ts p).tsq.length 0 4 + place (s.ts p).tsqOvf 8 8)

def State.readT1s (s : State) (p off : Nat) : Option Word :=
  let a := t1sBase p + off
  if off % 4 != 0 then none
  else match off with
    | 0x0 | 0x4 | 0x8 | 0xC => some (s.stored a)
    | 0x10 => some (s.t1sStat p)
    | 0x14 => some (s.t1sCnt p)
    | 0x18 => some (s.t1sCnt2 p)
    | 0x1C => some (s.t1sTsq p)
    | _ => if 0x100 ≤ off && off < 0x140 then some (s.stored a) else none
def State.clearT1s (s : State) (p off : Nat) : State :=
  match off with
  | 0x14 => s.updT1s p (fun t => { t with rxOvf := 0, fcsErr := 0, lenErr := 0, coll := 0 })
  | 0x18 => s.updT1s p (fun t => { t with plcaLoss := 0, bcnDup := 0, txAbort := 0 })
  | 0x1C => s.updT1s p (fun t => { t with tsqOvf := 0 })
  | _ => s

def syncCode (x : SyncSt) : Nat :=
  match x with | .none_ => 0 | .waiting => 1 | .tracking => 2 | .holdover => 3
/-- TIME_STAT. -/
def State.timeStat (s : State) : Word :=
  w32 (b2n s.tim.tb0Rc + 2 * b2n s.tim.rcSeen + 4 * b2n s.tim.bridged +
    place (syncCode (s.tbase 1).sync) 8 2 + place (syncCode (s.tbase 2).sync) 10 2 +
    place (syncCode (s.tbase 3).sync) 12 2)
/-- TIME_SYNC(i). -/
def State.timeSync (s : State) (i : Nat) : Word :=
  let b := s.tbase i
  let age := if b.sync == SyncSt.none_ then 0 else min 65535 ((s.now - b.ageFrom) / 1000000)
  w32 (age + place b.losses 16 8)
/-- The 64-bit value whose low word sits at a TIME offset (R109). -/
def State.time64 (s : State) (off : Nat) : Option Nat :=
  if off % 8 != 0 then none
  else if off < 0x20 then some (s.tbAt (off / 8) s.now)
  else if off < 0x40 then some (vget s.tim.tick ((off - 0x20) / 8))
  else none
/-- TIME registers but for the 64-bit values. -/
def State.readTime (s : State) (off : Nat) : Option Word :=
  match off with
  | 0x40 => some s.timeStat
  | 0x50 | 0x60 | 0x70 => some (s.stored (0x400A0000 + off))
  | 0x54 => some (BitVec.ofInt 32 (s.tbase 1).rate)
  | 0x64 => some (BitVec.ofInt 32 (s.tbase 2).rate)
  | 0x74 => some (BitVec.ofInt 32 (s.tbase 3).rate)
  | 0x58 => some (s.timeSync 1)
  | 0x68 => some (s.timeSync 2)
  | 0x78 => some (s.timeSync 3)
  | 0x80 => some (w32 (min 0xFFFFFFFF s.tim.bridgeUs))
  | _ => none
def State.clearTime (s : State) (off : Nat) : State :=
  match off with
  | 0x58 => s.updTb 1 (fun b => { b with losses := 0 })
  | 0x68 => s.updTb 2 (fun b => { b with losses := 0 })
  | 0x78 => s.updTb 3 (fun b => { b with losses := 0 })
  | _ => s

/-! ### Commands -/

def runT1sTx (x : Ctx) (s : State) : State × Out :=
  let c := x.cmd
  let p := pf c 2 0 1
  let t := s.ts p
  if s.clk.failOver || t.st != .run || decide (4 ≤ t.txq.length) then (s, outStatus 0x21)
  else
    let b := wordBytes (c.payload.drop 1) (pf c 2 16 11)
    let f : T1sTx := { frameId := pf c 2 8 8, stamp := optBit c 0, entered := false
                       bytes := b ++ List.replicate (60 - b.length) 0 }
    (s.updT1s p (fun t => { t with txq := t.txq ++ [f] }),
     outWords [w32 (place f.frameId 0 8 + place (t.txq.length + 1) 8 3)])

/-- A frame as T1S_READ returns it (R341). -/
def t1sFrameWords (p : Nat) (f : T1sRx) : List Word :=
  w32 (place f.len 0 11 + place (b2n (decide (1000 < f.len))) 11 1 + place f.base 12 2 + place p 14 1) ::
    w32 f.tb0 :: w32 f.tbi :: packBytes (f.bytes.take 1000)
/-- Frames that fit in `left` words, at most n of them. -/
def takeRing (p : Nat) : List T1sRx → Nat → Nat → List T1sRx
  | _, 0, _ => []
  | [], _, _ => []
  | f :: r, n + 1, left =>
      let k := (t1sFrameWords p f).length
      if left < k then [] else f :: takeRing p r n (left - k)

def runT1sRead (x : Ctx) (s : State) : State × Out :=
  let p := pf x.cmd 2 0 1
  if s.clk.failOver then (s, outStatus 0x21)
  else
    let l := takeRing p (s.ts p).ring (pf x.cmd 2 16 8) 253
    let s1 := s.updT1s p (fun t => { t with ring := t.ring.drop l.length })
    (s1, outWords (w32 (place l.length 0 8 + place (s1.ts p).ring.length 8 8) :: l.flatMap (t1sFrameWords p)))

def runTsqRead (x : Ctx) (s : State) : State × Out :=
  let p := pf x.cmd 2 0 1
  if s.clk.failOver then (s, outStatus 0x21)
  else
    let l := (s.ts p).tsq.take (pf x.cmd 2 16 4)
    let s1 := s.updT1s p (fun t => { t with tsq := t.tsq.drop l.length })
    (s1, outWords (w32 (place l.length 0 4 + place (s1.ts p).tsq.length 8 4) :: l.flatMap (fun e => [e.1, e.2.1, e.2.2])))

def runT1sCtrl (x : Ctx) (s : State) : State × Out :=
  let p := pf x.cmd 2 0 1
  let liveEn := bit (stActs s.live.regs (t1sBase p)) 0
  let r : Option State :=
    if s.clk.failOver then none
    else match pf x.cmd 2 8 4 with
      | 0 => some s
      | 1 => if liveEn then
          some ((s.updT1s p (fun t => { t with ring := [], txq := [], tsq := [] })).t1sStart p) else none
      | _ => some (s.t1sAbort p)
  match r with
  | some t => (t, outWords [t.t1sStat p, t.t1sCnt p, t.t1sTsq p])
  | none => (s, outStatus 0x21)

/-- A 64-bit value as two words, the low word first. -/
def words64 (v : Nat) : List Word := [w32 v, w32 (v / 2 ^ 32)]

def runTimeGet (x : Ctx) (s : State) : State × Out :=
  let mask := pf x.cmd 2 0 4
  let v := fun i => if optBit x.cmd 0 then vget s.tim.tick i else s.tbAt i s.now
  (s, outWords (s.timeStat :: (maskList mask 4).flatMap (fun i => words64 (v i))))

/-- The adjustment of a TIME_ADJUST packet. -/
def timeAdjOf (c : HostCmd) : TimeAdj :=
  let op := pf c 2 8 2
  let off : Nat := (pw c 4).toNat + (pw c 5).toNat * 2 ^ 32
  { base := pf c 2 0 2, op := op, rate := (pw c 3).toInt
    offset := if op = 2 then (off : Int) else (BitVec.ofNat 64 off).toInt }

def runTimeAdjust (x : Ctx) (s : State) : State × Out :=
  let a := timeAdjOf x.cmd
  let s1 := { s with adj := s.adj ++ [a] }
  let t := s1.timeOutput
  (s1, outWords (words64 (t.tbAt 0 t.now) ++ words64 (t.tbAt a.base t.now)))

end Sys2Proof.Machine
end

