-- ==== Sys2Proof/Machine/Netmgr.lean ====
section
/-! DEFINITION. NETMGR: the ring and its tables (R349-R351), consent and the commit point (R352, R353),
the states (R354), wake causes (R355-R358), the group (R359-R361), the fail-safe (R362), its commands
(R363) and registers (R364). -/

namespace Sys2Proof.Machine

def nmTime : Nat := 0x400B0004
def State.nmCfgEn (s : State) : Bool := s.cfgBit nmCfg 0
def State.nmLocalWake (s : State) : Bool := s.cfgBit nmCfg 1
def State.nmWakelDrv (s : State) : Bool := s.cfgBit nmCfg 2
/-- Ring address: one whose ring identifier is bound to an enabled object is out of range (R364). -/
def State.nmAddr (s : State) : Nat :=
  let a := s.cfg nmCfg 8 5
  let f : CanFrame := { (default : CanFrame) with id := s.cfg nmCfg 16 6 * 32 + a }
  if (s.boundObj s.nmCtrl f).isSome then 0 else a
/-- T_TYP, T_MAX, T_WBS and WAKEL_PULSE in ns. A T_MAX below 2 × T_TYP is out of range (R364). -/
def State.tTyp (s : State) : Nat := s.cfg nmTime 0 8 * 10000000
def State.tMax (s : State) : Nat :=
  let v := s.cfg nmTime 8 8
  (if v < 2 * s.cfg nmTime 0 8 then 0x1A else v) * 10000000
def State.tWbs (s : State) : Nat := s.cfg nmTime 16 10 * 10000000
def State.wakelNs (s : State) : Nat := s.cfg nmTime 26 6 * 1000000

def State.updNm (s : State) (f : Nm → Nm) : State := { s with nm := f s.nm }
/-- CANCk belongs to the group; the ring controller always does (R364). -/
def State.canGroup (s : State) (k : Nat) : Bool := s.cfgBit 0x400B0008 k || s.nmCtrl == k
def State.t1sGroup (s : State) (p : Nat) : Bool := s.cfgBit 0x400B0008 (16 + p)
/-- The ring controller can send. -/
def State.ringUp (s : State) : Bool :=
  let st := (s.canc s.nmCtrl).st
  st == .active || st == .passive

/-! ### The tables (R350, R352) -/

/-- Address k lies strictly between x and d in ascending ring order, wrapping after 31. -/
def ringBetween (x d k : Nat) : Bool :=
  let span := if d % 32 = x % 32 then 32 else (d + 32 - x % 32) % 32
  let pos := (k + 32 - x % 32) % 32
  decide (0 < pos) && decide (pos < span)
/-- Successor of the device (R350). -/
def State.successor (s : State) : Nat :=
  let l := maskList s.nm.present 32
  (l.find? (fun k => decide (s.nmAddr < k))).getD (l.head?.getD s.nmAddr)
/-- NETMGR_SI: the device's own bit is set while it is in CONSENT (R352). -/
def State.nmSi (s : State) : Nat :=
  let own := 1 <<< s.nmAddr
  (s.nm.si &&& s.nm.present &&& (0xFFFFFFFF ^^^ own)) ||| (if s.nm.st == .consent then own else 0)
/-- Every present node other than the device consents. -/
def State.allConsent (s : State) : Bool :=
  (maskList s.nm.present 32).all (fun k => k == s.nmAddr || s.nm.si.testBit k)
/-- The device is left alone after having had other nodes: NM_RING_ALONE is counted (R351). -/
def State.checkAlone (s : State) : State :=
  if s.nm.hadOthers && s.nm.present == 1 <<< s.nmAddr then
    (s.updNm (fun n => { n with hadOthers := false })).fault 0x45 0
  else s

/-! ### Sending (R351, R352) -/

/-- A ring frame enters arbitration: SI and SA are fixed. -/
def State.ringSend (s : State) (ty : RingType) : State :=
  let token := ty == .ring || ty == .alive
  let si := token && s.nm.st == .consent
  let f : RingTx := { ty := ty, dest := if token then s.successor else 0xFF, si := si
                      sa := ty == .ring && si && s.allConsent }
  s.updNm (fun n => { n with toSend := n.toSend ++ [f] })
/-- A due RING: dropped where the controller cannot send (R351). -/
def State.sendRing (s : State) : State :=
  let s1 := s.updNm (fun n => { n with tokenDue := none })
  if s1.ringUp then s1.ringSend .ring else s1

/-! ### The group (R359) -/

/-- The group goes to sleep. -/
def State.groupSleep (s : State) : State :=
  let s1 := s.forEach s.cans (fun t k =>
    if !t.canGroup k then t
    else match (t.canc k).st with
      | .halted | .failed => t.updCan k (fun c => { c with trxSleep := true })
      | _ => (t.canDisable k).updCan k (fun c => { c with trxSleep := true }))
  let s2 := s1.forEach s1.lins (fun t c => if t.linGroup c then t.linToSleep c else t)
  s2.forEach s2.ports (fun t p => if t.t1sGroup p then t.t1sToSleep p else t)
/-- The group wakes; controllers restart through DISABLED. -/
def State.groupWake (s : State) : State :=
  let s1 := s.forEach s.cans (fun t k =>
    if !t.canGroup k then t
    else
      let t1 := t.updCan k (fun c => { c with trxSleep := false })
      if (t1.canc k).st == .disabled && bit (stActs t1.regs (canBase k)) 0 && !t1.clk.failOver
      then t1.canStart k else t1)
  let s2 := s1.forEach s1.lins (fun t c => if t.linGroup c then t.linWake c else t)
  s2.forEach s2.ports (fun t p => if t.t1sGroup p then t.t1sWake p else t)

/-! ### States (R354) -/

/-- Entry to WAIT_SLEEP. -/
def State.toWaitSleep (s : State) (committed closer : Bool) : State :=
  let s1 := s.updNm (fun n => { n with
    st := .waitSleep, committed := committed, closer := closer, wbsFrom := s.now, tokenDue := none, passedTo := none
    toSend := n.toSend.filter (fun f => f.ty == .wake || f.ty == .withdraw) })
  s1.forEach s1.lins (fun t c => if t.linGroup c then t.linToWait c else t)
/-- BUS_SLEEP: the group goes to sleep. -/
def State.toBusSleep (s : State) : State :=
  (s.updNm (fun n => { n with st := .busSleep, toSend := [], tokenDue := none, passedTo := none })).groupSleep
/-- NETMGR drives a WAKEL pulse where WAKEL_DRV is 1 (R358). -/
def State.wakelPulse (s : State) : State :=
  if s.nmWakelDrv then s.updNm (fun n => { n with wakelOn := true, wakelUntil := s.now + s.wakelNs }) else s
/-- Entry to START: ALIVE to the successor, WAKE first if entered from WAIT_SLEEP. -/
def State.enterStart (s : State) (wakeFirst : Bool) : State :=
  let s1 := s.updNm (fun n => { n with
    st := .start, req := false, committed := false, closer := false, fsActive := false, tokenDue := none
    passedTo := none, lastToken := s.now, toSend := [], present := n.present ||| (1 <<< s.nmAddr) })
  let s2 := if wakeFirst then s1.ringSend .wake else s1
  s2.ringSend .alive

def nmCode (st : NmSt) : Nat :=
  match st with
  | .off => 0 | .start => 1 | .awake => 2 | .consent => 3 | .waitSleep => 4 | .busSleep => 5 | .halted => 6

/-- The last-wake record of NETMGR (R355, R364). -/
def State.nmRecord (s : State) (cause src : Nat) : State :=
  s.updNm (fun n => { n with
    wakeRec := w32 (place cause 0 4 + place (nmCode n.st) 8 3 + place (b2n n.committed) 11 1 + place src 16 5)
    wakeTime := s.now % 2 ^ 32, wakes := satInc n.wakes 255 })

/-- A wake cause acts (R355, R356). -/
def State.nmWake (s : State) (cause src : Nat) : State :=
  match s.nm.st with
  | .consent =>
      ((s.nmRecord cause src).updNm (fun n => { n with st := .awake, req := false })).ringSend .withdraw
  | .waitSleep => ((s.nmRecord cause src).enterStart true).wakelPulse
  | .busSleep =>
      let s1 := ((s.nmRecord cause src).groupWake).enterStart false
      if cause = 3 then s1 else s1.wakelPulse
  | .awake | .start => if cause = 1 then s.updNm (fun n => { n with req := false }) else s
  | .off | .halted => s

/-- NETMGR joins the ring with a recorded cause (R354, R361). -/
def State.nmJoin (s : State) (cause : Nat) (pulse : Bool) : State :=
  let s1 := ((s.nmRecord cause 0).groupWake).enterStart false
  if pulse then s1.wakelPulse else s1
/-- A load of the live image decides by EN (R354). -/
def State.nmLoad (s : State) : State :=
  match s.nm.st with
  | .halted => s
  | .off => if s.nmCfgEn && !s.clk.failOver then s.nmJoin 9 true else s
  | _ => if s.nmCfgEn then s else s.updNm (fun n => { n with
      st := .off, req := false, present := 0, si := 0, toSend := [], tokenDue := none, passedTo := none, hadOthers := false })
/-- Fail-over is declared: HALTED, no ring frames (R354). -/
def State.nmHalt (s : State) : State := s.updNm (fun n => { n with st := .halted, toSend := [], tokenDue := none, passedTo := none })
/-- The first racking after a reset or a Park exit (R361). -/
def State.nmResume (s : State) : State :=
  let s1 := s.updNm (fun n => { n with resume := 0 })
  if !s.nmCfgEn || s.clk.failOver then s1
  else match s.nm.resume with
    | 1 => s1.nmJoin 9 false
    | 2 => s1.updNm (fun n => { n with present := n.present ||| (1 <<< s.nmAddr) }) |>.toBusSleep
    | 3 => s1.nmJoin 2 true
    | 4 => s1.nmJoin 3 false
    | _ => s1
/-- Park or Cellar commit (R361). -/
def State.nmCommit (s : State) : State :=
  match s.nm.st with
  | .off | .halted => s
  | _ => s.toBusSleep

/-! ### Ring events -/

/-- START ends: CONSENT where REQ is 1, else AWAKE. -/
def startEnds (n : Nm) : Nm := if n.st == .start then { n with st := if n.req then .consent else .awake } else n
/-- NETMGR takes part in the ring. -/
def State.inRing (s : State) : Bool := s.nm.st == .start || s.nm.st == .awake || s.nm.st == .consent

/-- Tables after a ring frame from a (R350, R352). -/
def State.ringTables (s : State) (a dest : Nat) (ty : RingType) (si : Bool) : State :=
  let token := ty == .ring || ty == .alive
  let p := s.nm.present ||| (1 <<< a)
  let p1 := if token then listMask ((maskList p 32).filter (fun k => k == s.nmAddr || !ringBetween a dest k)) else p
  let sbit := 1 <<< a
  let si1 := if token && si then s.nm.si ||| sbit else s.nm.si &&& (0xFFFFFFFF ^^^ sbit)
  (s.updNm (fun n => { n with
    present := p1, si := si1, hadOthers := n.hadOthers || a != s.nmAddr
    passedTo := match n.passedTo with | some x => if x.1 = a then none else some x | none => none })).checkAlone

/-- The token stands with the device: its RING is scheduled, or the token is absorbed (R351). -/
def State.tokenHere (s : State) : State :=
  if s.nm.tokenDue.isSome then s.updNm (fun n => { n with absorbed := satInc n.absorbed 255 })
  else s.updNm (fun n => { n with tokenDue := some (s.now + s.tTyp), lastToken := s.now })
/-- The device receives the token (R351, R354). -/
def State.tokenIn (s : State) : State := (s.updNm startEnds).tokenHere

/-- Wake cause that a received frame is, 0 none (R355). -/
def ringCause (st : NmSt) (ty : RingType) (si sa : Bool) : Nat :=
  match ty with
  | .wake => 4
  | .withdraw => 5
  | .alive => 6
  | .ring => if !si then 5 else if st == .waitSleep && !sa then 8 else 0

/-- A ring frame is received (R349-R357). -/
def State.ringIn (s : State) (a dest : Nat) (ty : RingType) (si sa : Bool) : State :=
  let s1 := s.ringTables a dest ty si
  let sleep := ty == .ring && si && sa
  if sleep && s1.nm.st == .consent then s1.toWaitSleep true false
  else if sleep && s1.nm.toSend.any (fun f => f.ty == .withdraw) then
    ((s1.updNm (fun n => { n with committed := true })).enterStart true).wakelPulse
  else if sleep && s1.inRing then
    let s2 := s1.ringSend .wake
    if dest == s2.nmAddr then s2.tokenHere else s2
  else
    let cause := ringCause s1.nm.st ty si sa
    let s2 := if cause = 0 then s1 else s1.nmWake cause a
    if (ty == .ring || ty == .alive) && dest == s2.nmAddr && s2.inRing then s2.tokenIn else s2

/-- What a ring frame says: sender, DEST, TYPE, SI, SA; none for a frame that is no ring frame (R349). -/
def ringOf (base : Nat) (f : CanFrame) : Option (Nat × Nat × RingType × Bool × Bool) :=
  let b := (f.data[1]?.getD 0).toNat
  let ty : Option RingType := match b % 8 with
    | 0 => some .ring | 1 => some .alive | 2 => some .wake | 3 => some .withdraw | _ => none
  if f.ide || f.fdf || f.remote || f.dlc % 16 != 2 || f.id / 32 != base || b.testBit 3 || decide (64 ≤ b) then none
  else ty.map (fun t => (f.id % 32, (f.data[0]?.getD 0).toNat, t, b.testBit 4, b.testBit 5))
/-- The ring frame that a frame on controller k is. -/
def State.ringFrame (s : State) (k : Nat) (f : CanFrame) : Option (Nat × Nat × RingType × Bool × Bool) :=
  if k = s.nmCtrl then ringOf (s.cfg nmCfg 16 6) f else none
/-- NETMGR takes a ring frame before acceptance (R349); what it reads outside the ring's states changes nothing. -/
def State.ringTake (s : State) (k : Nat) (f : CanFrame) : State :=
  match s.ringFrame k f with
  | some (a, dest, ty, si, sa) => if s.inRing || s.nm.st == .waitSleep then s.ringIn a dest ty si sa else s
  | none => s
/-- A frame arrives on controller k without error: a remote frame is counted, a ring frame goes to NETMGR first, then the
frame goes to acceptance (R292, R297, R349). -/
def State.canReceive (s : State) (k : Nat) (f : CanFrame) : State :=
  if f.remote then s.updCan k (fun c => { c with remote := satInc c.remote 255 })
  else (s.ringTake k f).canAccept k f (s.sofStamp f.sinceSof)
/-- The end of a frame from the bus on controller k, REC as the controller counts it. -/
def State.canArrives (s : State) (k : Nat) (f : CanFrame) (rec : Nat) : State :=
  if !s.onBus k || (f.fdf && !s.canFd k) then s
  else ((s.updCan k (fun c => { c with lec := 0 })).canCount k (s.canc k).tec rec).canReceive k f

def execCanFrameReceived (at_ : Nat) (k : Fin 4) (f : CanFrame) (rec : Nat) (s : State) :
    Host.Outcome State Fault Refusal :=
  s.done ((s.atPhase at_).canArrives k f rec)

/-- The CAN frame of a ring frame from node a (R349). -/
def State.ringCanFrame (s : State) (a dest : Nat) (ty : RingType) (si sa : Bool) (sinceSof : Nat) : CanFrame :=
  let t := match ty with | .ring => 0 | .alive => 1 | .wake => 2 | .withdraw => 3
  { id := s.cfg nmCfg 16 6 * 32 + a, ide := false, dlc := 2, fdf := false, brs := false, esi := false
    remote := false, sinceSof := sinceSof
    data := [BitVec.ofNat 8 dest, BitVec.ofNat 8 (t + 16 * b2n si + 32 * b2n sa)] }
/-- A ring frame of node a arrives on the ring controller (R349): the same frame as a CAN_FRAME_RECEIVED of it. -/
def execRingFrameReceived (at_ : Nat) (a : Fin 32) (dest : Fin 256) (ty : RingType) (b : SleepBits) (e : FrameEnd)
    (s : State) : Host.Outcome State Fault Refusal :=
  let s0 := s.atPhase at_
  s.done (s0.canArrives s0.nmCtrl (s0.ringCanFrame a dest ty b.si b.sa e.sinceSof) e.count)

/-- An attempt to send the offered frame ends (R306): sent, or an error with its LEC. -/
def execCanFrameTransmitted (at_ : Nat) (k : Fin 4) (err : Option Nat) (tec sinceSof : Nat) (s : State) :
    Host.Outcome State Fault Refusal :=
  let s0 := s.atPhase at_
  let c := s0.canc k
  s.done (
    match if s0.canSends k then canOffer c (s0.cfgBit (canBase k) 5) (s0.now - sinceSof) else none with
    | none => s0
    | some t =>
        let t1 := { t with sof := s0.sofStamp sinceSof }
        match err with
        | none =>
            let s1 := s0.updCan k (fun c => canEvent { c with lec := 0, txq := c.txq.erase t } t1 0)
            let s2 := s1.canCount k tec c.rec_
            if s0.canMode k = 3 then s2.canReceive k (loopFrame t (c.st == .passive) sinceSof) else s2
        | some l =>
            let s1 := if t.single then s0.updCan k (fun c => canEvent { c with txq := c.txq.erase t } t1 3)
              else s0.updCan k (fun c => { c with txq := c.txq.map (fun x => if x == t then t1 else x) })
            (s1.updCan k (fun c => { c with lec := l % 8 })).canCount k tec c.rec_)

/-- The commit point and the token after a ring frame of the device (R351-R353). -/
def State.ringSent (s : State) (f : RingTx) : State :=
  let s1 := s.updNm (fun n => { n with lastToken := s.now })
  match f.ty with
  | .wake | .withdraw => s1
  | _ =>
      if f.sa && s1.nm.st == .consent then s1.toWaitSleep true true
      else s1.updNm (fun n => { n with passedTo := some (f.dest, s.now) })

/-- The oldest ring frame that waits has been sent on the ring controller (R351-R353), TEC as the controller counts it. -/
def execRingFrameSent (at_ : Nat) (e : FrameEnd) (s : State) : Host.Outcome State Fault Refusal :=
  let s0 := s.atPhase at_
  let k := s0.nmCtrl
  s.done (
    match s0.nm.toSend with
    | [] => s0
    | f :: r =>
        if !s0.canSends k then s0
        else
          let s1 := (s0.updNm (fun n => { n with toSend := r })).ringSent f
          let s2 := (s1.updCan k (fun c => { c with lec := 0 })).canCount k e.count (s0.canc k).rec_
          if s0.canMode k = 3 then s2.canReceive k (s0.ringCanFrame s0.nmAddr f.dest f.ty f.si f.sa e.sinceSof) else s2)

def execTokenHoldElapsed (at_ : Nat) (s : State) : Host.Outcome State Fault Refusal :=
  let s0 := s.atPhase at_
  s.done (if s0.inRing && s0.nm.tokenDue.any (fun t => decide (t ≤ s0.now)) then s0.sendRing else s0)

def execSuccessorTimeout (at_ : Nat) (s : State) : Host.Outcome State Fault Refusal :=
  let s0 := s.atPhase at_
  s.done (
    match s0.nm.passedTo with
    | some (d, t) =>
        if s0.inRing && d != s0.nmAddr && decide (t + s0.tMax ≤ s0.now) then
          ((s0.updNm (fun n => { n with
            present := n.present &&& (0xFFFFFFFF ^^^ (1 <<< d)), skips := satInc n.skips 255, passedTo := none })).checkAlone).sendRing
        else s0
    | none => s0)

def execTokenTimeout (at_ : Nat) (s : State) : Host.Outcome State Fault Refusal :=
  let s0 := s.atPhase at_
  s.done (
    if s0.inRing && s0.nm.tokenDue.isNone && decide (s0.nm.lastToken + s0.tMax ≤ s0.now) then
      ((s0.updNm (fun n => { startEnds n with tokenTmo := satInc n.tokenTmo 255, lastToken := s0.now })).sendRing).fault 0x47 0
    else s0)

def execWaitBeforeSleepElapsed (at_ : Nat) (s : State) : Host.Outcome State Fault Refusal :=
  let s0 := s.atPhase at_
  s.done (if s0.nm.st == .waitSleep && decide (s0.nm.wbsFrom + s0.tWbs ≤ s0.now) then s0.toBusSleep else s0)

/-- A wake cause of R355 named by the event; a device wake is one only with LOCAL_WAKE 1. -/
def execNetworkWakeCause (at_ : Nat) (cause src : Nat) (s : State) : Host.Outcome State Fault Refusal :=
  let s0 := s.atPhase at_
  s.done (if s0.running && decide (1 ≤ cause) && decide (cause ≤ 8) && (cause != 2 || s0.nmLocalWake)
    then s0.nmWake cause src else s0)

/-- A rise that has stood for 30 µs, and that came 1 ms or more after the device's own pulse (R358). -/
def execWakelOutsideRise (at_ : Nat) (s : State) : Host.Outcome State Fault Refusal :=
  let s0 := s.atPhase at_
  s.done (if s0.inRun && !s0.nm.wakelOn && decide (s0.nm.wakelUntil + 1030000 ≤ s0.now || s0.nm.wakelUntil = 0)
    then s0.nmWake 3 0 else s0)

def execWakelPulseEnd (at_ : Nat) (s : State) : Host.Outcome State Fault Refusal :=
  let s0 := s.atPhase at_
  s.done (if s0.nm.wakelOn && decide (s0.nm.wakelUntil ≤ s0.now) then s0.updNm (fun n => { n with wakelOn := false }) else s0)

/-- A wake pulse on a sleeping group channel is cause 7 (R359). -/
def execLinWakePulse (at_ : Nat) (c : Fin 6) (s : State) : Host.Outcome State Fault Refusal :=
  let s0 := s.atPhase at_
  s.done (if (s0.linc c).st == .sleep && s0.linGroup c then s0.nmWake 7 c else s0)

/-! ### Fail-safe (R362) -/

/-- A group transceiver is awake. -/
def State.groupAwake (s : State) : Bool :=
  s.cans.any (fun k => s.canGroup k && !(s.canc k).trxSleep && (s.canc k).st != .disabled) ||
  s.lins.any (fun c => s.linGroup c && (s.linc c).st != .sleep && (s.linc c).st != .disabled) ||
  s.ports.any (fun p => s.t1sGroup p && ((s.ts p).st == .run || (s.ts p).st == .starting))
/-- PARK oscillator frequency: measured, or its nominal value before a measurement. -/
def State.parkHz (s : State) : Nat := if s.clk.parkHz = 0 then 32768 else s.clk.parkHz
/-- TB0 at which 65,536 PARK cycles have passed without a restart. -/
def State.fsDeadline (s : State) : Nat := s.nm.fsFrom + 65536 * 1000000000 / s.parkHz
/-- The timer counts. -/
def State.fsCounts (s : State) : Bool := s.nm.st != .off && s.groupAwake

def execNetmgrFailSafe (at_ : Nat) (s : State) : Host.Outcome State Fault Refusal :=
  let s0 := s.atPhase at_
  s.done (
    if !(s0.fsCounts && decide (s0.fsDeadline ≤ s0.now)) then s0
    else
      let s1 := s0.forEach [0, 1] (fun t k => t.updCan k (fun c => { c with trxSleep := true }))
      let s2 := s1.forEach s1.lins (fun t c => t.linToSleep c)
      let s3 := s2.forEach s2.ports (fun t p => t.t1sToSleep p)
      (s3.toBusSleep.updNm (fun n => { n with fsActive := true, fsCount := satInc n.fsCount 255 })).fault 0x46 0)

/-- Step 3 of a racking restarts the timer. -/
def State.fsRestart (s : State) : State := s.updNm (fun n => { n with fsFrom := s.now })

/-! ### Power-state entry (R360) -/

/-- 0 grant, 1 delay, 2 refuse. -/
def State.nmAsk (s : State) : Nat :=
  match s.nm.st with | .start | .awake => 2 | .consent => 1 | _ => 0
/-- NETMGR lets its group sleep. -/
def State.groupMaySleep (s : State) : Bool := s.nm.st == .waitSleep || s.nm.st == .busSleep
def State.canAsk (s : State) : Nat :=
  let one := fun k =>
    match (s.canc k).st with
    | .disabled | .halted | .failed => 0
    | _ => if !(s.canGroup k && s.groupMaySleep) then 2
           else if ((s.canc k).txq.any (·.entered) && ((s.canc k).st == .active || (s.canc k).st == .passive)) ||
               (k == s.nmCtrl && !s.nm.toSend.isEmpty) then 1 else 0
  s.cans.foldl (fun a k => max a (one k)) 0
def State.linAsk (s : State) : Nat :=
  let one := fun c =>
    match (s.linc c).st with
    | .disabled | .halted => 0
    | .sleep => if s.linGroup c && s.groupMaySleep then 0 else 2
    | _ => if !(s.linGroup c && s.groupMaySleep) then 2 else if (s.linc c).frameId.isSome then 1 else 0
  s.lins.foldl (fun a c => max a (one c)) 0
def State.t1sAsk (s : State) : Nat :=
  let one := fun p =>
    match (s.ts p).st with
    | .disabled | .halted => 0
    | st => if !(s.t1sGroup p && s.groupMaySleep) then 2
            else if st == .run && (s.ts p).txq.any (·.entered) then 1 else 0
  s.ports.foldl (fun a p => max a (one p)) 0

/-! ### Registers (R364) -/

def State.nmStat (s : State) : Word :=
  let n := s.nm
  w32 (nmCode n.st + 8 * b2n n.req + 16 * b2n n.committed + 32 * b2n n.closer + 64 * b2n n.fsActive +
    128 * b2n n.wakelOn + place (if n.st == .off then 0 else s.successor) 8 5 +
    place (if n.st == .waitSleep then msLeft s.now (n.wbsFrom + s.tWbs) else 0) 16 14)
def State.nmPresent (s : State) : Word := w32 s.nm.present
def State.readNm (s : State) (off : Nat) : Option Word :=
  match off with
  | 0x00 | 0x04 | 0x08 => some (s.stored (0x400B0000 + off))
  | 0x0C => some s.nmStat
  | 0x10 => some s.nmPresent
  | 0x14 => some (w32 s.nmSi)
  | 0x18 => some s.nm.wakeRec
  | 0x1C => some (w32 s.nm.wakeTime)
  | 0x20 => some (w32 (place s.nm.tokenTmo 0 8 + place s.nm.skips 8 8 + place s.nm.absorbed 16 8 + place s.nm.wakes 24 8))
  | 0x24 => some (w32 (place (if s.fsCounts then min 2000 (msLeft s.now s.fsDeadline) else 0) 0 11 + place s.nm.fsCount 16 8))
  | _ => none
def State.clearNm (s : State) (off : Nat) : State :=
  match off with
  | 0x20 => s.updNm (fun n => { n with tokenTmo := 0, skips := 0, absorbed := 0, wakes := 0 })
  | 0x24 => s.updNm (fun n => { n with fsCount := 0 })
  | _ => s

/-! ### Commands (R363) -/

/-- What a command does to NETMGR at the output update: 1 request, 2 stay awake, 3 force. -/
def State.nmCommand (s : State) (code : Nat) : State :=
  match code with
  | 1 =>
      let s1 := s.updNm (fun n => { n with req := true })
      if s.nm.st == .awake then s1.updNm (fun n => { n with st := .consent }) else s1
  | 3 =>
      let s1 := s.updNm (fun n => { n with req := true })
      if s.inRing then s1.toWaitSleep false false else s1
  | _ =>
      match s.nm.st with
      | .off | .halted => s
      | _ => (s.nmWake 1 0).updNm (fun n => { n with req := false })
/-- The output update of NETMGR: the commands of the racking in execution order (R354, R357). -/
def State.nmOutput (s : State) : State :=
  s.nm.todo.foldl State.nmCommand (s.updNm (fun n => { n with todo := [] }))

/-- A command is noted, and the reply shows NETMGR_STAT as it stands after it at that edge. -/
def State.nmNote (s : State) (code : Nat) : State × Out :=
  let s1 := s.updNm (fun n => { n with todo := n.todo ++ [code] })
  (s1, outWords [s1.nmOutput.nmStat])

def runNmRequestSleep (x : Ctx) (s : State) : State × Out :=
  let force := optBit x.cmd 0
  if s.clk.failOver || s.nm.st == .off || (force && s.ringUp) then (s, outStatus 0x21)
  else s.nmNote (if force then 3 else 1)
def runNmStayAwake (_ : Ctx) (s : State) : State × Out :=
  if s.clk.failOver then (s, outStatus 0x21) else s.nmNote 2
def runNmStatus (_ : Ctx) (s : State) : State × Out :=
  (s, outWords [s.nmStat, s.nmPresent, w32 s.nmSi, s.nm.wakeRec])

end Sys2Proof.Machine
end

