-- ==== Sys2Proof/Machine/Aes.lean ====
section
/-! DEFINITION. AES-128 (FIPS-197) and AES-CMAC (RFC 4493), which the spec names and does not print
(PRESUMED, log 7): used by R367, R380 and R410. -/

namespace Sys2Proof.Machine

/-- The S-box: byte i in bits [8i + 7:8i]. -/
def sboxBits : Nat :=
  0x16BB54B00F2D99416842E6BF0D89A18CDF2855CEE9871E9B948ED9691198F8E19E1DC186B95735610EF6034866B53E708A8BBD4B1F74DDE8C6B4A61C2E2578BA08AE7A65EAF4566CA94ED58D6D37C8E779E4959162ACD3C25C2406490A3A32E0DB0B5EDE14B8EE4688902A22DC4F816073195D643D7EA7C41744975FEC130CCDD2F3FF1021DAB6BCF5389D928F40A351A89F3C507F02F94585334D43FBAAEFD0CF584C4A39BECB6A5BB1FC20ED00D153842FE329B3D63B52A05A6E1B1A2C830975B227EBE28012079A059618C323C7041531D871F1E5A534CCF73F362693FDB7C072A49CAFA2D4ADF04759FA7DC982CA76ABD7FE2B670130C56F6BF27B777C63
def sbox (b : Nat) : Nat := (sboxBits >>> (8 * (b % 256))) % 256
/-- Multiplication by x in GF(2^8). -/
def xtime (b : Nat) : Nat := if b < 128 then 2 * b else (2 * b) % 256 ^^^ 0x1B

/-- Bytes of a block, most significant first. -/
def blockBytes (v : BitVec 128) : List Nat := (List.range 16).map (fun i => (v.toNat >>> (8 * (15 - i))) % 256)
/-- The block of 16 bytes. -/
def bytesBlock (l : List Nat) : BitVec 128 := BitVec.ofNat 128 (l.foldl (fun a b => a * 256 + b) 0)

def xorBytes (a b : List Nat) : List Nat := List.zipWith (fun x y => x ^^^ y) a b
/-- Byte i of a state. -/
def bAt (l : List Nat) (i : Nat) : Nat := l[i]?.getD 0
/-- SubBytes and ShiftRows: the state is kept by columns. -/
def subShift (l : List Nat) : List Nat :=
  (List.range 16).map (fun i => sbox (bAt l ((i + 4 * (i % 4)) % 16)))
/-- One column of MixColumns. -/
def mixCol (a b c d : Nat) : List Nat :=
  [xtime a ^^^ (xtime b ^^^ b) ^^^ c ^^^ d, a ^^^ xtime b ^^^ (xtime c ^^^ c) ^^^ d,
   a ^^^ b ^^^ xtime c ^^^ (xtime d ^^^ d), (xtime a ^^^ a) ^^^ b ^^^ c ^^^ xtime d]
def mixColumns (l : List Nat) : List Nat :=
  [0, 4, 8, 12].flatMap (fun i => mixCol (bAt l i) (bAt l (i + 1)) (bAt l (i + 2)) (bAt l (i + 3)))

/-- The next round key. -/
def nextKey (k : List Nat) (rcon : Nat) : List Nat :=
  let w0 := [bAt k 0 ^^^ sbox (bAt k 13) ^^^ rcon, bAt k 1 ^^^ sbox (bAt k 14), bAt k 2 ^^^ sbox (bAt k 15),
             bAt k 3 ^^^ sbox (bAt k 12)]
  let w1 := xorBytes w0 ((k.drop 4).take 4)
  let w2 := xorBytes w1 ((k.drop 8).take 4)
  let w3 := xorBytes w2 ((k.drop 12).take 4)
  w0 ++ w1 ++ w2 ++ w3

/-- The rounds with the remaining round constants; the last round has no MixColumns. -/
def aesRounds : List Nat → List Nat → List Nat → List Nat
  | [], _, st => st
  | [r], k, st => xorBytes (subShift st) (nextKey k r)
  | r :: rs, k, st => aesRounds rs (nextKey k r) (xorBytes (mixColumns (subShift st)) (nextKey k r))

/-- AES-128 of one block. -/
def aes128 (key blk : BitVec 128) : BitVec 128 :=
  bytesBlock (aesRounds [1, 2, 4, 8, 16, 32, 64, 128, 27, 54] (blockBytes key) (xorBytes (blockBytes blk) (blockBytes key)))

/-- Doubling in GF(2^128). -/
def gfDouble (v : BitVec 128) : BitVec 128 := if v.getLsbD 127 then (v <<< 1) ^^^ 0x87 else v <<< 1
/-- AES-CMAC of a message of fewer than 16 bytes. -/
def cmacShort (key : BitVec 128) (msg : List Nat) : BitVec 128 :=
  let k2 := gfDouble (gfDouble (aes128 key 0))
  aes128 key (bytesBlock (msg ++ 0x80 :: List.replicate (15 - msg.length) 0) ^^^ k2)

end Sys2Proof.Machine
end

