-- ==== Sys2Proof/Machine/Memint.lean ====
section
/-! DEFINITION. MEMINT and the memories: SRAM bytes in one canonical form, the outcomes of a read (R450,
R452, R453), word and part-word writes (R448), the scrubber (R456-R458), row and page spares (R454, R455,
R459), the ledger and the FEATURE window (R41-R45), and the MEMINT registers (R463). -/

namespace Sys2Proof.Machine

/-! ### Bytes -/

def inRom (a : Nat) : Bool := decide (a < 0x10000)
/-- Decoded flash: pages 0–767 (R449). -/
def inFlash (a : Nat) : Bool := decide (0x10000000 ≤ a) && decide (a < 0x100C0000)
/-- The whole flash, as the scrubber walks it (R448, R456). -/
def inArray (a : Nat) : Bool := decide (0x10000000 ≤ a) && decide (a < 0x10100000)
def inSram (a : Nat) : Bool := decide (0x20000000 ≤ a) && decide (a < 0x20060000)

/-- What an SRAM byte that nothing has written reads as: 0 after the self-test (R460) in SB4 and SB5;
in SB0-SB3 the firmware keeps data whose layout the spec does not give, so the byte is open (R12). -/
def unlisted (a : Nat) : Option Byte := if a < 0x20040000 then none else some 0
/-- Write one byte, keeping the list canonical. -/
def memPut (l : List (Nat × Byte)) (a : Nat) (b : Byte) : List (Nat × Byte) :=
  match unlisted a with
  | some d => kvPut l d a b
  | none => kvSet l a b
/-- The list is canonical: addresses strictly rising, no entry equal to what an unlisted byte reads as. -/
def memWf (l : List (Nat × Byte)) : Bool := kvSorted l && l.all (fun p => unlisted p.1 != some p.2)
/-- One byte; w gives an open byte. -/
def memByte (l : List (Nat × Byte)) (w : Word) (a : Nat) : Byte :=
  (kvGet l a).getD ((unlisted a).getD (byteOf w (a % 4)))
/-- The word at a multiple of 4, lowest byte first (R398). -/
def memWord (l : List (Nat × Byte)) (w : Word) (a : Nat) : Word :=
  ofBytes (memByte l w a) (memByte l w (a + 1)) (memByte l w (a + 2)) (memByte l w (a + 3))
/-- Write the word at a multiple of 4. -/
def memPutWord (l : List (Nat × Byte)) (a : Nat) (v : Word) : List (Nat × Byte) :=
  memPut (memPut (memPut (memPut l a (byteOf v 0)) (a + 1) (byteOf v 1)) (a + 2) (byteOf v 2)) (a + 3) (byteOf v 3)

/-- The word in SRAM; an open byte is a free value. -/
def State.sramWord (s : State) (a : Nat) : State × Word :=
  let known := (List.range 4).all (fun i => (kvGet s.mem.bytes (a + i)).isSome || (unlisted (a + i)).isSome)
  if known then (s, memWord s.mem.bytes 0 a)
  else (s.fresh.2, memWord s.mem.bytes s.fresh.1 a)

/-- The word in ROM or in decoded flash. A stored vat image has no stated layout (R168), so its words are
fresh free values. -/
def State.romWord (s : State) (a : Nat) : State × Word :=
  if inRom a then
    (s, ofBytes (Config.romByte a) (Config.romByte (a + 1)) (Config.romByte (a + 2)) (Config.romByte (a + 3)))
  else if a < 0x100A0000 then
    (s, ofBytes (Config.flashByte a) (Config.flashByte (a + 1)) (Config.flashByte (a + 2)) (Config.flashByte (a + 3)))
  else (s.fresh.2, s.fresh.1)

/-! ### Numbering (R448, R462) -/

def bankNum (a : Nat) : Nat := (a - 0x20000000) / 0x10000
/-- b × 256 + r. -/
def rowKey (a : Nat) : Nat := (a - 0x20000000) / 0x100
/-- Row base of a key. -/
def rowBase (key : Nat) : Nat := 0x20000000 + 0x100 * key
/-- Flash page p. -/
def flashPage (a : Nat) : Nat := (a - 0x10000000) / 0x400
def flashBase (p : Nat) : Nat := 0x10000000 + 0x400 * p
/-- INFO of RS_CORRECT and RS_FAIL. -/
def pageInfo (a : Nat) : Nat := if inSram a then (a - 0x20000000) / 0x400 else 0x8000 + flashPage a

def State.updMem (s : State) (f : Mem → Mem) : State := { s with mem := f s.mem }

/-- A bus access for the collector: master, access kind, size. -/
structure BusAcc where
  m : Nat
  kind : Nat
  size : Nat
  deriving DecidableEq, Repr, Inhabited

def memEvent (src info : Nat) (x : BusAcc) (a : Nat) : FEvent :=
  { src := src, info := info, master := x.m, access := x.kind, size := x.size, addr := a, data := 0 }
/-- A replacement names no master (R462). -/
def spareEvent (src info a : Nat) : FEvent := { plainEvent src info with addr := a }

/-! ### Reading (R450-R453) -/

/-- A row falls due once (R459). -/
def rowFallsDue (m : Mem) (key cause : Nat) : Mem :=
  if (kvGet m.rowDue key).isSome then m else { m with rowDue := kvSet m.rowDue key cause }
/-- A flash page falls due once (R455). -/
def pageFallsDue (m : Mem) (p cause : Nat) : Mem :=
  if (kvGet m.pageDue p).isSome then m else { m with pageDue := kvSet m.pageDue p cause }

/-- What the word code finds at an address: the check-bit errors that were injected there (R463), or the
upset that the event brings. One error bit is correctable, more are found as two errors. -/
def Mem.find (m : Mem) (a : Nat) (f : CodeFind) : CodeFind :=
  match kvGet m.inj a with
  | none => f
  | some k => if popCount k 7 = 1 ∧ f = .clean then .one else match f with | .two p => .two p | _ => .two default

/-- Three or more injected error bits are beyond what R446 states of the code. An even number is found as
two errors. For an odd number a free value decides: two errors, or one error whose correction changes a
data bit. -/
def State.oddErrors (s : State) (a : Nat) : State :=
  match kvGet s.mem.inj a with
  | none => s
  | some k =>
      if popCount k 7 % 2 = 1 ∧ popCount k 7 ≠ 1 then
        let w := s.fresh.1
        let t := s.fresh.2
        let m := t.mem
        if bit w 5 then { t with mem := { m with inj := kvSet m.inj a 3 } }
        else { t with mem := { m with
                inj := kvSet m.inj a 1
                bytes := memPutWord m.bytes a (memWord m.bytes 0 a ^^^ (1 <<< (w.toNat % 32))) } }
      else s

/-- Words of the page of a with injected errors. -/
def Mem.injPage (m : Mem) (a : Nat) : List Nat := (m.inj.map (·.1)).filter (fun b => b / 0x400 == a / 0x400)

/-- Codeword c of a page with these errors cannot be corrected: more than 8 of its bytes are in error (R447), and
twice its errors outside the hinted words with its erasures, one byte of every hinted word that it touches (R448),
exceed its 16 check bytes (R452, log 114). -/
def codewordLost (p : PageErr) (c : Nat) : Bool :=
  let e := p.bytes.filter (fun b => b % 8 == c)
  decide (8 < e.length) &&
    decide (16 < 2 * (e.filter (fun b => !p.hints.contains (b / 4))).length + (p.hints.filter (fun w => w % 2 == c / 4)).length)
/-- Addresses of the words of the page of a that hold these bytes. -/
def pageWords (a : Nat) (bytes : List Nat) : List Nat := bytes.map (fun b => a / 0x400 * 0x400 + b / 4 * 4)
/-- Words of the page of a that a decode leaves uncorrected. -/
def lostWords (a : Nat) (p : PageErr) : List Nat := pageWords a (p.bytes.filter (fun b => codewordLost p (b % 8)))

/-- Words of SRAM that a decode could not correct are poisoned, and their rows fall due (R453, R459). -/
def Mem.poisonWords (m : Mem) (words : List Nat) : Mem :=
  words.foldl (fun t b => rowFallsDue { t with poison := insertAsc b t.poison } (rowKey b) 3) m

/-- A page decode for the read of a that succeeds (R450, R452): the rows of the words that it corrected, those of `hit`
among them, or the page, fall due (R455, R459); words beyond it stay lost. -/
def State.decodeGood (s : State) (x : BusAcc) (a : Nat) (hit : List Nat) (p : PageErr) : State :=
  let m := s.mem
  let m1 := { m with rsCorrect := satInc m.rsCorrect 255, last := a,
                     inj := m.inj.filter (fun p => p.1 / 0x400 != a / 0x400) }
  let m2 := if inSram a then
      Mem.poisonWords ((hit ++ (m.injPage a ++ pageWords a p.bytes)).foldl (fun t b => rowFallsDue t (rowKey b) 3) m1) (lostWords a p)
    else pageFallsDue m1 (flashPage a) 3
  { s with mem := m2 }.faults [memEvent 0x57 (pageInfo a) x a]

/-- A page decode that fails: SRAM words that it could not correct are poisoned (R453). -/
def State.decodeBad (s : State) (x : BusAcc) (a : Nat) (words : List Nat) : State :=
  let m := s.mem
  let m1 := { m with rsFail := satInc m.rsFail 255, ue := satInc m.ue 255, last := a,
                     inj := m.inj.filter (fun p => p.1 / 0x400 != a / 0x400) }
  let m2 := if inSram a then m1.poisonWords words else m1
  { s with mem := m2 }.faults [memEvent 0x58 (pageInfo a) x a,
    if inSram a then memEvent 0x56 (rowKey a) x a else memEvent 0x53 (flashPage a) x a]

/-- The check that a read of the word at a makes (R450): the state after it, and whether the word is
returned. -/
def State.checkWord (s0 : State) (x : BusAcc) (a : Nat) (f : CodeFind) : State × Bool :=
  let s := s0.oddErrors a
  let m := s.mem
  if inSram a && m.poison.contains a then
    (({ s with mem := { m with ue := satInc m.ue 255, last := a } }).faults [memEvent 0x56 (rowKey a) x a], false)
  else match m.find a f with
    | .clean => (s, true)
    | .one =>
        let m1 := { m with last := a, inj := kvDel m.inj a }
        if inRom a then
          (({ s with mem := { m1 with romCe := satInc m.romCe 255 } }).faults [memEvent 0x50 0 x a], true)
        else if inArray a then
          (({ s with mem := { m1 with flashCe := satInc m.flashCe 255 } }).faults [memEvent 0x52 (flashPage a) x a], true)
        else
          (({ s with mem := { m1 with sramCe := satInc m.sramCe 255 } }).faults [memEvent 0x55 (rowKey a) x a], true)
    | .two p =>
        if inRom a then
          (({ s with mem := { m with ue := satInc m.ue 255, last := a } }).faults [memEvent 0x51 0 x a], false)
        else if (lostWords a p).contains a then (s.decodeBad x a (lostWords a p), false)
        else (s.decodeGood x a [a] p, true)

/-- A checked read of the word at a multiple of 4, in ROM, decoded flash or SRAM. -/
def State.readMem (s : State) (x : BusAcc) (a : Nat) : State × Option Word :=
  let r := s.checkWord x a .clean
  if r.2 then
    let w := if inSram a then r.1.sramWord a else r.1.romWord a
    (w.1, some w.2)
  else (r.1, none)

/-! ### Writing (R448, R453, R458, R463) -/

/-- A word write to SRAM: poison and injected errors of the word go, an armed mask is put in. -/
def State.writeWord (s : State) (a : Nat) (v : Word) : State :=
  let m := s.mem
  let inj := kvDel m.inj a
  { s with mem := { m with
      bytes := memPutWord m.bytes a v
      poison := m.poison.filter (· != a)
      inj := match m.armed with | some k => (if k = 0 then inj else kvSet inj a k) | none => inj
      armed := none
      walkDirty := m.walkDirty || (a / 0x400 == m.scrubAddr / 0x400 && m.scrubAddr % 0x400 != 0) } }

/-- Words of SB4 or SB5 from lo on are written with zeros, `size` bytes in all (R413, R419). -/
def State.zeroRange (s : State) (lo size : Nat) : State :=
  let keep := fun (a : Nat) => !(decide (lo ≤ a) && decide (a < lo + size))
  let s1 := { s with mem := { s.mem with
    bytes := s.mem.bytes.filter (fun p => keep p.1), poison := s.mem.poison.filter keep
    walkDirty := s.mem.walkDirty || (s.mem.scrubAddr % 0x400 != 0 && decide (lo / 0x400 ≤ s.mem.scrubAddr / 0x400) &&
      decide (s.mem.scrubAddr / 0x400 * 0x400 < lo + size))
    inj := s.mem.inj.filter (fun p => keep p.1) } }
  if size = 0 then s else s1.writeWord lo 0
/-- Words written one after the other from lo on. -/
def State.writeWords (s : State) (lo : Nat) (l : List Word) : State :=
  (l.zipIdx).foldl (fun t (w : Word × Nat) => t.writeWord (lo + 4 * w.2) w.1) s

/-- A byte or half-word of a word replaced. -/
def mergePart (w v : Word) (pos n : Nat) : Word :=
  let b := fun (i : Nat) => if pos ≤ i ∧ i < pos + n then byteOf v (i - pos) else byteOf w i
  ofBytes (b 0) (b 1) (b 2) (b 3)

/-- A write of n bytes to SRAM; a part-word write reads its word first. The flag tells that it was made. -/
def State.writeMem (s : State) (x : BusAcc) (a n : Nat) (v : Word) : State × Bool :=
  if n = 4 then (s.writeWord a v, true)
  else
    let base := a / 4 * 4
    match s.readMem { x with kind := 0 } base with
    | (s1, some w) => (s1.writeWord base (mergePart w v (a % 4) n), true)
    | (s1, none) => (s1, false)

/-! ### The scrubber (R456-R458) -/

/-- The word after a in the walk. -/
def scrubNext (a : Nat) : Nat :=
  if a = 0xFFFC then 0x10000000 else if a = 0x100FFFFC then 0x20000000 else if a = 0x2005FFFC then 0 else a + 4

/-- A corrected word counts against its row or page in this pass. -/
def State.scrubCount (s : State) (a : Nat) : State :=
  s.updMem (fun m =>
    if inSram a then
      let n := (kvGet m.rowCe (rowKey a)).getD 0 + 1
      let m1 := { m with rowCe := kvSet m.rowCe (rowKey a) n }
      if s.cfg 0x400E0000 20 4 ≤ n then rowFallsDue m1 (rowKey a) 2 else m1
    else if inArray a then
      let n := (kvGet m.pageCe (flashPage a)).getD 0 + 1
      let m1 := { m with pageCe := kvSet m.pageCe (flashPage a) n }
      if s.cfg 0x400E0000 24 4 ≤ n then pageFallsDue m1 (flashPage a) 2 else m1
    else m)

/-- The syndrome check at a page's last word (R458): `syn` tells that a syndrome is not zero, by the errors p. -/
def State.pageEnd (s : State) (x : BusAcc) (a : Nat) (syn : Bool) (p : PageErr) : State :=
  if inRom a || a % 0x400 != 0x3FC then s
  else
    let s1 := s.updMem (fun m => { m with walkDirty := false })
    if s.mem.walkDirty then s1.updMem (fun m => { m with skipped := satInc m.skipped 255 })
    else if !syn then s1
    else if (lostWords a p).isEmpty then s1.decodeGood x a [] p
    else s1.decodeBad x a (lostWords a p)

/-- The walk goes on; a finished pass is counted. -/
def State.scrubStep (s : State) : State :=
  let a := scrubNext s.mem.scrubAddr
  s.updMem (fun m =>
    if a = 0 then { m with scrubAddr := 0, passes := (m.passes + 1) % 65536, rowCe := [], pageCe := [], lagSeen := false }
    else { m with scrubAddr := a })

/-- One scrubber read (R456). -/
def State.scrub (s : State) (f : CodeFind) (syn : Bool) (p : PageErr) : State :=
  let a := s.mem.scrubAddr
  let x : BusAcc := ⟨4, 0, 2⟩
  let one := !s.mem.poison.contains a && (s.oddErrors a).mem.find a f == .one
  let s1 := (s.checkWord x a f).1
  let s2 := if one then s1.scrubCount a else s1
  (s2.pageEnd x a syn p).scrubStep

/-- The interval ends without a grant: DEBT, and SCRUB_LAG once a pass at 16 (R457). -/
def State.scrubLate (s : State) : State :=
  let d := satInc s.mem.debt 16
  let lag := d == 16 && !s.mem.lagSeen
  let s1 := s.updMem (fun m => { m with debt := d, lagSeen := m.lagSeen || lag })
  if lag then s1.fault 0x5C 0 else s1

/-- MEMINT_CFG.RATE in ns (R456). -/
def State.scrubRate (s : State) : Nat := s.cfg 0x400E0000 4 13 * 1000
/-- TB0 at which the scrubber's present interval begins; the walk starts with the start-up (R456). -/
def State.scrubFrom (s : State) : Nat := max s.mem.scrubAt s.clk.epoch
/-- The present interval has its read: the next one begins at the end of the interval in which now lies. -/
def State.scrubPaced (s : State) : State :=
  s.updMem (fun m => { m with scrubAt := s.scrubFrom + ((s.now - s.scrubFrom) / s.scrubRate + 1) * s.scrubRate })

/-- What the scrubber's pacing does (R456, R457): a read in its interval, one for each RATE µs; an interval that ends
before its read was granted; a read back to back while the debt is above 0. -/
def execScrubRead (at_ : Nat) (pace : ScrubPace) (f : CodeFind) (syn : Bool) (p : PageErr) (s : State) :
    Host.Outcome State Fault Refusal :=
  let s0 := s.atPhase at_
  s.done (
    if !(s0.inRun && s0.cfgBit 0x400E0000 0) then s0
    else match pace with
      | .onTime => if s0.now < s0.scrubFrom then s0 else (s0.scrubPaced).scrub f syn p
      | .late =>
          if s0.now < s0.scrubFrom + s0.scrubRate then s0
          else (s0.updMem (fun m => { m with scrubAt := s0.scrubFrom + s0.scrubRate })).scrubLate
      | .catchUp => if s0.mem.debt = 0 then s0
          else (s0.updMem (fun m => { m with debt := m.debt - 1 })).scrub f syn p)

/-! ### Spares (R454, R455, R459) -/

/-- The lowest free spare row of a bank. -/
def Mem.spareRow (m : Mem) (b : Nat) : Option Nat :=
  (List.range 16).find? (fun i => !(vget m.rowSpares b).any (fun p => p.2 == i) && !(vget m.badSpares b).contains i)
/-- The lowest free spare page. -/
def Mem.sparePage (m : Mem) : Option Nat := (List.range 32).find? (fun i => !m.pageSpares.any (fun p => p.2 == i))

/-- No spare of a kind is left: SPARE_EXHAUST, once for the row or page. -/
def State.exhaust (s : State) (kind item info a : Nat) : State :=
  if s.mem.exhaustSeen.contains (kind, item) then s
  else (s.updMem (fun m => { m with exhaustSeen := m.exhaustSeen ++ [(kind, item)] })).faults [spareEvent 0x5B info a]

/-- A spare row found failed is never in service again, and the row mapped to it loses it (R460). -/
def Mem.spoilRow (m : Mem) (key : Nat) : Mem :=
  { m with badSpares := vupd m.badSpares (key / 16) (fun l => insertAsc (key % 16) l)
           rowSpares := vupd m.rowSpares (key / 16) (fun l => l.filter (fun p => p.2 != key % 16)) }

/-- Row r of bank b moves to a spare row with a ledger cause. -/
def State.replaceRow (s : State) (key cause : Nat) : State :=
  let b := key / 256
  let r := key % 256
  match s.mem.spareRow b with
  | none => s.exhaust 2 key (2 * 256 + b) (rowBase key)
  | some sp =>
      let s1 := s.updMem (fun m => { m with rowSpares := vupd m.rowSpares b (fun l => l ++ [(r, sp)]), rows := satInc m.rows 255 })
      (s1.record (s.ledgerEntry 2 cause b r sp)).faults [spareEvent 0x59 key (rowBase key)]

def State.rowReplace (s : State) : State :=
  match s.mem.rowDue with
  | [] => s
  | (key, cause) :: r => (s.updMem (fun m => { m with rowDue := r })).replaceRow key cause

def execRowReplacement (at_ : Nat) (s : State) : Host.Outcome State Fault Refusal :=
  s.done ((s.atPhase at_).rowReplace)

/-- Page p moves to a spare page; the flag tells that one was left. -/
def State.replacePage (s : State) (p cause : Nat) : State × Bool :=
  match s.mem.sparePage with
  | none => (s.exhaust 3 p (3 * 256) (flashBase p), false)
  | some sp =>
      let s1 := s.updMem (fun m => { m with pageSpares := m.pageSpares ++ [(p, sp)], refresh := satInc m.refresh 255 })
      ((s1.record (s.ledgerEntry 3 cause 0 p sp)).faults [spareEvent 0x5A p (flashBase p)], true)

def State.pageRefresh (s : State) : State :=
  match s.mem.pageDue with
  | [] => s
  | (p, cause) :: r => ((s.updMem (fun m => { m with pageDue := r })).replacePage p cause).1

def execFlashRefresh (at_ : Nat) (s : State) : Host.Outcome State Fault Refusal :=
  s.done ((s.atPhase at_).pageRefresh)

/-- The read-back of a flash write (R454): a page that fails it moves to a spare. The flag tells that the sequence
completed, which it does unless no spare is left. -/
def State.flashWrote (s : State) (o : FlashOut) : State × Bool :=
  match o with
  | .good => (s, true)
  | .badPage p => (s.faults [spareEvent 0x54 p (flashBase p)]).replacePage p 3

/-! ### The ledger and the FEATURE window (R41-R45) -/

/-- Order of entries that take effect at one racking: kind, unit, item (R42). -/
def entryKey (e : LedgerEntry) : Nat := bits e.w0 28 4 * 2 ^ 24 + bits e.w0 16 8 * 2 ^ 16 + bits e.w0 0 16
def insertEntry (e : LedgerEntry) : List LedgerEntry → List LedgerEntry
  | [] => [e]
  | d :: r => if entryKey e < entryKey d then e :: d :: r else d :: insertEntry e r

/-- The copy of the ledger that a rewrite makes. -/
def Feat.rewritten (f : Feat) : LedgerCopy :=
  { gen := max f.copyA.gen f.copyB.gen + 1, good := true, entries := f.ledger, powerCycles := f.powerCycles }

/-- Both flash copies hold the ledger as it stands (R42, R43). -/
def State.ledgerWritten (s : State) : State :=
  if !s.feat.rewriting || s.pwr.fuseFailed then s
  else { s with feat := { s.feat with rewriting := false, ledgerValid := true
                                      copyA := s.feat.rewritten, copyB := s.feat.rewritten } }

def execLedgerRewriteDone (at_ : Nat) (s : State) : Host.Outcome State Fault Refusal :=
  s.done ((s.atPhase at_).ledgerWritten)

/-- Spare rows left in bank b. -/
def State.rowsLeft (s : State) (b : Nat) : Nat :=
  16 - ((vget s.mem.rowSpares b).length + (vget s.mem.badSpares b).length)
/-- Spare flash pages left. -/
def State.pagesLeft (s : State) : Nat := 32 - s.mem.pageSpares.length
/-- Spare objects left on controller k. -/
def State.objsLeft (s : State) (k : Nat) : Nat := 8 - (s.canc k).sparesUsed.length
/-- FEAT7.EXHAUSTED (R39, R45). -/
def State.noSpares (s : State) : Bool :=
  s.loads.any (fun n => (s.ch n).spareIn) || (List.range 6).any (fun b => s.rowsLeft b == 0) ||
  s.pagesLeft == 0 || s.cans.any (fun k => s.objsLeft k == 0 || (s.canc k).filtSpare)

/-- The spare registers of the window take what is in service now (R42, R44). -/
def State.showSpares (s : State) : State :=
  { s with feat := { s.feat with win :=
    { segs := listMask (s.loads.filter (fun n => (s.ch n).spareIn))
      can := w32 ((s.cans.foldl (fun a k => a + place (s.objsLeft k) (4 * k) 4) 0) +
        place (listMask (s.cans.filter (fun k => (s.canc k).filtSpare))) 16 4)
      sram := w32 ((List.range 6).foldl (fun a b => a + place (s.rowsLeft b) (5 * b) 5) 0)
      flash := w32 s.pagesLeft
      exhausted := s.noSpares } } }

/-- Replacements since the previous racking appear in the FEATURE window (R42). -/
def State.ledgerRack (s : State) : State :=
  let s1 := s.showSpares
  if s.feat.waiting.isEmpty then s1
  else { s1 with feat := { s1.feat with
          ledger := (s.feat.ledger ++ s.feat.waiting.foldl (fun l e => insertEntry e l) []).take 256
          waiting := [], rewriting := true } }

/-- FEATURE registers: all read 0 in the fuse-failed state (R32). -/
def State.readFeat (s : State) (off : Nat) : Option Word :=
  let f := s.feat
  let v : Option Word :=
    if off % 4 != 0 then none
    else if off < 0x1C then some (featWord s.var (off / 4))
    else if off = 0x1C then some (w32 (b2n f.ledgerValid + 2 * b2n f.win.exhausted))
    else if off = 0x20 then some (w32 (place f.ledger.length 0 9 + place f.powerCycles 16 16))
    else if off = 0x24 then some (w32 f.win.segs)
    else if off = 0x28 then some (w32 (f.win.segs >>> 32))
    else if off = 0x2C then some f.win.can
    else if off = 0x30 then some f.win.sram
    else if off = 0x34 then some f.win.flash
    else if 0x800 ≤ off ∧ off < 0x1000 then
      let e := (f.ledger[(off - 0x800) / 8]?).getD default
      some (if off % 8 = 0 then e.w0 else e.w1)
    else none
  if s.pwr.fuseFailed then v.map (fun _ => 0) else v

/-! ### Registers (R463) -/

def State.readMemint (s : State) (off : Nat) : Option Word :=
  let m := s.mem
  match off with
  | 0x00 => some (s.stored 0x400E0000)
  | 0x04 => some (w32 m.scrubAddr)
  | 0x08 => some (w32 (place m.passes 0 16 + place m.debt 16 5 + place m.skipped 24 8))
  | 0x0C => some (w32 (place m.romCe 0 8 + place m.flashCe 8 8 + place m.sramCe 16 8 + place m.rsCorrect 24 8))
  | 0x10 => some (w32 (place m.ue 0 8 + place m.rsFail 8 8 + place m.refresh 16 8 + place m.rows 24 8))
  | 0x14 => some (w32 m.last)
  | 0x18 => some (w32 (place m.poison.length 0 16))
  | 0x1C => some (w32 (place m.test 0 8 + place m.rowsFixed 16 8))
  | 0x20 => some 0
  | _ => none
/-- What a clearing read leaves. -/
def State.clearMemint (s : State) (off : Nat) : State :=
  match off with
  | 0x08 => s.updMem (fun m => { m with skipped := 0 })
  | 0x0C => s.updMem (fun m => { m with romCe := 0, flashCe := 0, sramCe := 0, rsCorrect := 0 })
  | 0x10 => s.updMem (fun m => { m with ue := 0, rsFail := 0, refresh := 0, rows := 0 })
  | _ => s
/-- A write to MEMINT_INJECT: ARM arms MASK for one SRAM word write. -/
def State.writeInject (s : State) (v : Word) : State :=
  if bit v 8 then s.updMem (fun m => { m with armed := some (bits v 0 7) }) else s

end Sys2Proof.Machine
end

