-- ==== Sys2Proof/Machine/Access.lean ====
section
/-! DEFINITION. ACCESS: telegrams and their validation (R366-R373), throttling (R374, R375), the session
(R376-R379), the transponder challenge (R380, R381), enrolled tokens and the dealer code (R382-R386), the
access commands (R389, R390) and the registers (R391). -/

namespace Sys2Proof.Machine

def accCfg : Nat := 0x400C0000
def State.updAcc (s : State) (f : Acc → Acc) : State := { s with acc := f s.acc }
/-- ACC_CFG.EN in service. -/
def State.accEn (s : State) : Bool := s.cfgBit accCfg 0

/-! ### The log (R390) -/

/-- A log entry: KIND, DETAIL, slot if any, word 1, TOKEN_ID and COUNTER. -/
def State.accLog (s : State) (kind detail : Nat) (slot : Option Nat) (w1 tokenId counter : Word) : State :=
  let w0 := w32 (place s.acc.nextEvent 0 16 + place kind 16 8 + place detail 24 4 +
    (match slot with | some i => place i 28 3 + place 1 31 1 | none => 0))
  let l := s.acc.log ++ [(w0, w1, tokenId, counter, w32 s.now)]
  s.updAcc (fun a => { a with log := l.drop (l.length - 16), nextEvent := (a.nextEvent + 1) % 65536 })

/-! ### The session (R376-R379) -/

/-- The session ends with a cause; KIND 0x10 unless a LOCK entry reports it. -/
def State.endSession (s : State) (cause : Nat) (logIt : Bool) : State :=
  match s.acc.session with
  | none => s
  | some o =>
      let s1 := s.updAcc (fun a => { a with session := none, lastEnd := cause })
      if logIt then s1.accLog 0x10 cause (some o) 0 (s.tok o).tokenId 0 else s1

/-- A door-open event of input d at step 1 (R266, R378). -/
def State.doorOpen (s : State) (d : Nat) : State :=
  if s.acc.session.isSome then (s.updAcc (fun a => { a with doorD := d })).endSession 1 true
  else s.accLog 0x11 0 none 0 0 0

/-- UHFEN follows ACC_CFG.EN in Run, and EN 0 ends the session (R365, R378). -/
def State.accFollow (s : State) : State :=
  if !hasAccess s.var then s
  else if s.accEn && s.inRun then
    if s.acc.uhfen then s else s.updAcc (fun a => { a with uhfen := true, uhfAt := s.now })
  else
    let s1 := s.updAcc (fun a => { a with uhfen := false })
    if s1.accEn then s1 else s1.endSession 8 true

def execSessionTimeout (at_ : Nat) (s : State) : Host.Outcome State Fault Refusal :=
  let s0 := s.atPhase at_
  s.done (if s0.acc.session.isSome && decide (s0.acc.sessionEnd ≤ s0.now) then s0.endSession 5 true else s0)

/-! ### Throttling (R374, R375) -/

/-- Invalid telegrams that ended in the last 10 s. -/
def State.recentInvalid (s : State) : List Nat := s.acc.recent.filter (fun t => decide (s.now ≤ t + 10000000000))
def State.throttled (s : State) : Bool := s.acc.throttleEnd.any (fun t => decide (s.now < t))
/-- An invalid telegram counts towards throttling. -/
def State.countInvalid (s : State) : State :=
  let l := s.recentInvalid ++ [s.now]
  let s1 := s.updAcc (fun a => { a with cntInvalid := satInc a.cntInvalid 255, recent := l })
  if l.length < 9 then s1
  else
    let s2 := s1.updAcc (fun a => { a with
      throttleEnd := some (s.now + 60000000000), thrFlag := true, thrEntries := satInc a.thrEntries 255 })
    (s2.accLog 0x0A 0 none 0 0 0).fault 0x48 0

def execThrottleEnd (at_ : Nat) (s : State) : Host.Outcome State Fault Refusal :=
  let s0 := s.atPhase at_
  s.done (if s0.acc.throttleEnd.any (fun t => decide (t ≤ s0.now)) then
    s0.updAcc (fun a => { a with throttleEnd := none, recent := [], thrFlag := false }) else s0)

/-! ### Validation (R366-R373) -/

/-- COUNTER of a telegram. -/
def telCounter (b : List Byte) : Word := be32 b 5
def telToken (b : List Byte) : Word := be32 b 1
/-- Word 1 of a log entry about a telegram (R390). -/
def telWord (b : List Byte) (resync : Bool) : Word :=
  w32 (byteAt b 9 + place (byteAt b 10 % 16) 8 4 + place (byteAt b 10 / 128) 12 1 + place (b2n resync) 13 1)
/-- ACTIVE or PENDING slot that holds a TOKEN_ID. -/
def State.tokenSlot (s : State) (id : Word) : Option Nat :=
  (List.range 8).find? (fun i => (s.tok i).st != .empty && (s.tok i).tokenId == id)
/-- The MAC is correct under the slot's K_T (R367). -/
def macOk (k : BitVec 128) (b : List Byte) : Bool :=
  ((cmacShort k ((b.take 11).map (·.toNat))).toNat >>> 96) == (be32 b 11).toNat
/-- LAST as it will stand after the writes in progress (R371). -/
def State.lastOf (s : State) (i : Nat) : Word :=
  s.acc.writes.foldl (fun l w => if w.slot = i then telCounter w.bytes else l) (s.tok i).last
/-- Counter window (R391). -/
def State.accWindow (s : State) : Nat := 16 * 4 ^ s.cfg accCfg 2 2

/-- An invalid telegram is logged with its reason and counts (R370). -/
def State.telInvalid (s : State) (reason : Nat) (slot : Option Nat) (b : List Byte) : State :=
  (s.accLog 0x08 reason slot (telWord b false) (telToken b) (telCounter b)).countInvalid

/-- A valid telegram starts its LAST write (R371). -/
def State.telValid (s : State) (i : Nat) (b : List Byte) (resync : Bool) : State :=
  let s1 := s.updTok i (fun k => { k with
    latest := some (b, s.now), battLow := decide (128 ≤ byteAt b 10), cand := if resync then none else k.cand })
  s1.updAcc (fun a => { a with writes := a.writes ++ [{ slot := i, bytes := b, resync := resync }] })

/-- Checks 5 and 6 of R370 for slot i, and R373. -/
def State.telCount (s : State) (i : Nat) (b : List Byte) : State :=
  let k := s.tok i
  if k.latest.any (fun l => l.1 == b && decide (s.now ≤ l.2 + 1000000000)) then
    s.updAcc (fun a => { a with cntRepeat := satInc a.cntRepeat 255 })
  else
    let d := (telCounter b - s.lastOf i).toNat
    if 1 ≤ d ∧ d ≤ s.accWindow then s.telValid i b false
    else if d = 0 ∨ 2 ^ 31 ≤ d then s.telInvalid 4 (some i) b
    else if k.cand.any (fun c => decide (s.now ≤ c.2 + 10000000000) && telCounter b == c.1 + 1) then s.telValid i b true
    else (s.updTok i (fun k => { k with cand := some (telCounter b, s.now) })).telInvalid 5 (some i) b

/-- The checks of R370 on a complete telegram. -/
def State.telCheck (s : State) (b : List Byte) : State :=
  if s.throttled then
    (s.accLog 0x09 0 none (telWord b false) (telToken b) (telCounter b)).updAcc (fun a =>
      { a with cntThrottled := satInc a.cntThrottled 255 })
  else if byteAt b 0 != 0x10 || byteAt b 10 / 16 % 8 != 0 then s.telInvalid 1 none b
  else match s.tokenSlot (telToken b) with
    | none => s.telInvalid 2 none b
    | some i => if macOk (s.tok i).kT b then s.telCount i b else s.telInvalid 3 (some i) b

/-- The sync byte has been found after a preamble: the reception is a telegram (R366, R369). -/
def telFound (t : TelegramIn) : Bool := decide (12 ≤ t.preamble) && t.sync == 0x2D
/-- A telegram with a Manchester violation, a bit period outside 200 µs ± 10 % or an early loss of carrier (R366, R369). -/
def telCorrupt (bytes : List Byte) (t : TelegramIn) : Bool :=
  t.violation || t.periods.any (fun p => decide (p < 18000) || decide (22000 < p)) || decide (bytes.length < 15)
/-- Telegrams are decoded in Run from 5 ms after UHFEN turns on (R365). -/
def State.uhfDecodes (s : State) (t : TelegramIn) : Bool :=
  s.acc.uhfen && s.inRun && decide (s.acc.uhfAt + 5000000 + 10 * t.periods.sum ≤ s.now)

/-- A reception ends (R369, R370): the first 15 data bytes are the telegram. -/
def execTelegramReceived (at_ : Nat) (bytes : List Byte) (t : TelegramIn) (s : State) : Host.Outcome State Fault Refusal :=
  let s0 := s.atPhase at_
  s.done (
    if !s0.uhfDecodes t || !telFound t then s0
    else if telCorrupt bytes t then s0.updAcc (fun a => { a with cntCorrupt := satInc a.cntCorrupt 255 })
    else s0.telCheck (bytes.take 15))

/-- A PENDING slot is confirmed (R382). -/
def State.confirm (s : State) (i : Nat) : State :=
  if (s.tok i).st == .pending then
    (s.updTok i (fun k => { k with st := .active })).accLog 0x21 0 (some i) 0 (s.tok i).tokenId 0
  else s

/-- The session rules for an accepted telegram (R368, R376, R377). -/
def State.sessionRules (s : State) (i : Nat) (b : List Byte) (resync : Bool) : State :=
  let cmd := byteAt b 9
  let log := fun (t : State) kind => t.accLog kind 0 (some i) (telWord b resync) (telToken b) (telCounter b)
  if s.acc.session.isSome then
    if cmd = 2 then log (s.endSession 4 false) 0x03
    else log (s.updAcc (fun a => { a with cntIgnored := satInc a.cntIgnored 255 })) 0x02
  else if cmd = 1 ∨ cmd = 3 then
    log (s.updAcc (fun a => { a with
      session := some i, sessionEnd := s.now + s.cfg accCfg 8 8 * 1000000000, sessionT := s.now % 2 ^ 32 })) 0x01
  else log s 0x04

/-- The LAST write at the head completes, or fails its verification (R371). -/
def execTelegramAccepted (at_ : Nat) (o : FlashOut) (s : State) : Host.Outcome State Fault Refusal :=
  let s0 := s.atPhase at_
  s.done (
    match s0.acc.writes with
    | [] => s0
    | w :: r =>
        let f := (s0.updAcc (fun a => { a with writes := r })).flashWrote o
        let s1 := f.1
        if !f.2 then s1.fault 0x4C 0
        else if (s1.tok w.slot).st == .empty || (s1.tok w.slot).tokenId != telToken w.bytes then s1
        else
          let s2 := (s1.updTok w.slot (fun k => { k with last := telCounter w.bytes })).updAcc (fun a =>
            { a with cntValid := satInc a.cntValid 255 })
          (s2.confirm w.slot).sessionRules w.slot w.bytes w.resync)

def execResyncCandidateExpiry (at_ : Nat) (n : Fin 8) (s : State) : Host.Outcome State Fault Refusal :=
  let s0 := s.atPhase at_
  s.done (if (s0.tok n).cand.any (fun c => decide (c.2 + 10000000000 ≤ s0.now)) then
    s0.updTok n (fun k => { k with cand := none }) else s0)

def execPendingSlotExpiry (at_ : Nat) (n : Fin 8) (s : State) : Host.Outcome State Fault Refusal :=
  let s0 := s.atPhase at_
  s.done (if (s0.tok n).st == .pending && decide ((s0.tok n).pendFrom + 600000000000 ≤ s0.now) then
    (s0.updTok n (fun _ => default)).accLog 0x23 0 (some n) 0 (s0.tok n).tokenId 0 else s0)

/-! ### The challenge (R380, R381) -/

/-- RESPONSE that a slot's K_I gives (R380). -/
def lfResponse (kI : BitVec 128) (nonce : BitVec 64) (id : Word) : BitVec 64 :=
  (aes128 kI (nonce ++ id ++ (0 : Word))).extractLsb' 64 64

/-- ACC_CFG.LF_ILIM in mA (R391). -/
def State.lfMa (s : State) : Nat := 100 * (s.cfg accCfg 4 4 + 1)
/-- The carrier current lies below 20 % of LF_ILIM or above 2 A (R381). -/
def State.coilBad (s : State) (o : CoilIn) : Bool := decide (5 * o.ma < s.lfMa) || decide (2000 < o.ma)
/-- The time in ns that a coil's outcome takes at least (R380): a downlink of 23 ms and 96 uplink bits of 0.5 ms for an
answer, 25 ms without one. -/
def State.coilNs (s : State) (o : CoilIn) : Nat :=
  if s.coilBad o then 0 else if o.answer.isSome then 71000000 else 25000000
/-- Coil A of a challenge over both coils has given NO_ANSWER, so coil B is tried (R380). -/
def State.triesB (s : State) (coils : Nat) (a : CoilIn) : Bool :=
  coils == 2 || (coils == 3 && !s.coilBad a && a.answer.isNone)
/-- The time in ns that the coils tried take at least. -/
def State.challengeNs (s : State) (coils : Nat) (a b : CoilIn) : Nat :=
  (if coils = 2 then 0 else s.coilNs a) + (if s.triesB coils a then s.coilNs b else 0)

/-- Result, coil that decided it, slot and TOKEN_ID of one coil's outcome, and the state with its
counts. -/
def State.coilResult (s : State) (coil : Nat) (nonce : BitVec 64) (o : CoilIn) :
    State × Nat × Nat × Option Nat × Word :=
  if s.coilBad o then (s.fault 0x4A coil, 5, coil, none, 0)
  else match o.answer with
  | none => (s, 1, 0, none, 0)
  | some (id, r) =>
      match s.tokenSlot id with
      | none => (s, 2, coil, none, id)
      | some i =>
          if r == lfResponse (s.tok i).kI nonce id then (s.confirm i, 0, coil, some i, id)
          else (s.fault 0x49 i, 3, coil, some i, id)

def waitsChallenge (o : Outst) : Bool := match o.wait with | .challenge => true | _ => false

/-- The challenge ends with what its coils gave, not before the coils tried can have done so (R380, R381). -/
def execAccChallengeDone (at_ : Nat) (a b : CoilIn) (s : State) : Host.Outcome State Fault Refusal :=
  let s0 := s.atPhase at_
  s.done (
    match s0.acc.challenge with
    | none => s0
    | some c =>
      if !c.supply && decide (s0.now < c.since + s0.challengeNs c.coils a b) then s0
      else
        let r : State × Nat × Nat × Option Nat × Word :=
          if c.supply then (s0, 4, 0, none, 0)
          else if s0.triesB c.coils a then s0.coilResult 2 c.nonce b
          else s0.coilResult 1 c.nonce a
        let ok := r.2.1 == 0
        let s1 := r.1.updAcc (fun q => { q with
          challenge := none
          lfOk := if ok then satInc q.lfOk 255 else q.lfOk
          lfFail := if ok then q.lfFail else satInc q.lfFail 255 })
        let w3 := w32 (place r.2.1 0 4 + place r.2.2.1 4 2 +
          (match r.2.2.2.1 with | some i => place i 8 3 + place 1 11 1 | none => 0))
        s1.answer waitsChallenge 0 [w3, r.2.2.2.2])

def runAccChallenge (x : Ctx) (s : State) : State × Option Out :=
  if s.acc.challenge.isSome then (s, some (outStatus 0x21))
  else if !s.eng.outstRoom then (s, some (outStatus 0x30))
  else
    let (w1, s1) := s.fresh
    let (w2, s2) := s1.fresh
    ((s2.updAcc (fun a => { a with challenge := some { coils := pf x.cmd 2 0 2, since := s.now, nonce := w1 ++ w2, supply := s.supply.low || s.supply.ov } })).addOutst
      x.op x.cmd .challenge, none)

/-! ### Enrolment (R382-R386) -/

/-- The dealer window is open. -/
def State.dealerOpen (s : State) : Bool := s.acc.dealerEnd.any (fun t => decide (s.now < t))
def activeSlots (s : State) : List Nat := (List.range 8).filter (fun i => (s.tok i).st == .active)

/-- A key of four words, the most significant first. -/
def key128 (c : HostCmd) (i : Nat) : BitVec 128 := pw c i ++ pw c (i + 1) ++ pw c (i + 2) ++ pw c (i + 3)

def enrolsToken (id : Word) (slot : Nat) (w : KeyWrite) : Bool :=
  match w with | .enrol sl t _ _ _ => t == id && sl != slot | .revoke _ => false

def runAccEnrol (x : Ctx) (s : State) : State × Option Out :=
  let slot := pf x.cmd 2 0 3
  let id := pw x.cmd 3
  let auth := s.dealerOpen || (s.acc.session.isSome && (s.tok slot).st == .empty)
  let taken := (List.range 8).any (fun i => i != slot && (s.tok i).st != .empty && (s.tok i).tokenId == id) ||
    s.acc.keyWrites.any (enrolsToken id slot)
  if !auth then (s, some (outStatus 0x21))
  else if taken then (s, some (outStatus 0x14))
  else if !s.eng.outstRoom then (s, some (outStatus 0x30))
  else
    let w : KeyWrite := .enrol slot id (pw x.cmd 4) (key128 x.cmd 5) (key128 x.cmd 9)
    ((s.updAcc (fun a => { a with keyWrites := a.keyWrites ++ [w] })).addOutst x.op x.cmd (.enrol slot), none)

def runAccRevoke (x : Ctx) (s : State) : State × Option Out :=
  let slot := pf x.cmd 2 0 3
  let guarded := s.acc.session == some slot || activeSlots s == [slot]
  if !(s.dealerOpen || (s.acc.session.isSome && !guarded)) then (s, some (outStatus 0x21))
  else if !s.eng.outstRoom then (s, some (outStatus 0x30))
  else ((s.updAcc (fun a => { a with keyWrites := a.keyWrites ++ [.revoke slot] })).addOutst x.op x.cmd .revoke, none)

/-- The oldest outstanding enrolment or revocation. -/
def State.keyTicket (s : State) : Nat :=
  match s.eng.outst.find? (fun o => o.answer.isNone && (match o.wait with | .enrol _ | .revoke => true | _ => false)) with
  | some o => o.ticket
  | none => s.eng.nextTicket

/-- The key store write at the head completes, or fails its verification (R385, R386). -/
def execKeyStoreWriteDone (at_ : Nat) (o : FlashOut) (s : State) : Host.Outcome State Fault Refusal :=
  let s0 := s.atPhase at_
  s.done (
    match s0.acc.keyWrites with
    | [] => s0
    | w :: r =>
        let k := s0.keyTicket
        let f := (s0.updAcc (fun a => { a with keyWrites := r })).flashWrote o
        let s1 := f.1
        let mine := fun (o : Outst) => o.ticket == k
        if !f.2 then (s1.answer mine 0x21 []).fault 0x4C 0
        else match w with
          | .enrol slot id last kT kI =>
              let s2 := s1.updTok slot (fun _ => { (default : TokenSlot) with
                st := .pending, tokenId := id, kT := kT, kI := kI, last := last, pendFrom := s0.now })
              (s2.accLog 0x20 0 (some slot) 0 id 0).answer mine 0 []
          | .revoke slot =>
              let s2 := (s1.updTok slot (fun _ => default)).accLog 0x22 0 (some slot) 0 (s1.tok slot).tokenId 0
              let s3 := if s2.acc.session == some slot then s2.endSession 6 true else s2
              s3.answer mine 0 [])

/-! ### The dealer code (R383) -/

/-- A lockout is in force. -/
def State.dealerLocked (s : State) : Bool := s.acc.lockEnd.any (fun t => decide (s.now < t))
/-- Length of the lockout after n consecutive wrong codes, in ns. -/
def dealerLockNs (n : Nat) : Nat := min 3600 (10 * 2 ^ (min n 16 - 1)) * 1000000000

def execDealerWindowClose (at_ : Nat) (s : State) : Host.Outcome State Fault Refusal :=
  let s0 := s.atPhase at_
  s.done (if s0.acc.dealerEnd.any (fun t => decide (t ≤ s0.now)) then
    s0.updAcc (fun a => { a with dealerEnd := none }) else s0)

def execDealerLockoutEnd (at_ : Nat) (s : State) : Host.Outcome State Fault Refusal :=
  let s0 := s.atPhase at_
  s.done (if s0.acc.lockEnd.any (fun t => decide (t ≤ s0.now)) then
    s0.updAcc (fun a => { a with lockEnd := none, lockFlag := false }) else s0)

/-- ACC_DEALER (R391). -/
def State.accDealer (s : State) : Word :=
  let left := match s.acc.lockEnd with | some t => (t - s.now + 999999999) / 1000000000 | none => 0
  w32 (b2n s.acc.code.isSome + place (min 255 s.acc.wrong) 8 8 + place left 16 12)

def runAccDealerCode (x : Ctx) (s : State) : State × Out :=
  let code : BitVec 64 := pw x.cmd 2 ++ pw x.cmd 3
  let np := fun (t : State) => (t, outStatus 0x21)
  if optBit x.cmd 1 then
    let t := s.updAcc (fun a => { a with dealerTodo := some 0 })
    (t, outWords [t.accDealer])
  else if s.dealerLocked then np s
  else if optBit x.cmd 0 then
    if s.acc.code.isNone && (List.range 8).all (fun i => (s.tok i).st == .empty) then
      let t := s.updAcc (fun a => { a with code := some code })
      (t, outWords [t.accDealer])
    else np s
  else if s.acc.code == some code then
    let t := (s.updAcc (fun a => { a with
      wrong := 0, lockEnd := none, lockFlag := false
      dealerTodo := some (s.now + s.cfg accCfg 16 8 * 10000000000) })).accLog 0x30 0 none 0 0 0
    (t, outWords [t.accDealer])
  else
    let n := satInc s.acc.wrong 255
    np (((s.updAcc (fun a => { a with wrong := n, lockEnd := some (s.now + dealerLockNs n), lockFlag := true })).accLog
      0x31 0 none 0 0 0).fault 0x4B 0)

def runAccSessionEnd (x : Ctx) (s : State) : State × Out :=
  let open_ := s.acc.session.isSome && s.accEnd.isNone
  let t := if open_ then { s with accEnd := some (if pf x.cmd 2 0 1 = 1 then 2 else 3) } else s
  (t, outWords [w32 (b2n open_)])

/-- The output update of ACCESS (R389). -/
def State.accOutput (s : State) : State :=
  let s1 := match s.accEnd with | some c => { s.endSession c true with accEnd := none } | none => s
  match s1.acc.dealerTodo with
  | some 0 => s1.updAcc (fun a => { a with dealerEnd := none, dealerTodo := none })
  | some t => s1.updAcc (fun a => { a with dealerEnd := some t, dealerTodo := none })
  | none => s1

/-- The first press tick after a power-on reset restarts the deadlines that were in force, with their
full length (R375, R383). -/
def State.accFirstTick (s : State) : State :=
  let s1 := if s.acc.thrFlag && s.acc.throttleEnd.isNone then
    s.updAcc (fun a => { a with throttleEnd := some (s.now + 60000000000) }) else s
  if s1.acc.lockFlag && s1.acc.lockEnd.isNone then
    s1.updAcc (fun a => { a with lockEnd := some (s.now + dealerLockNs a.wrong) }) else s1

/-! ### Registers (R391) -/

def State.accStat (s : State) : Word :=
  let a := s.acc
  let m := fun (st : SlotSt) => listMask ((List.range 8).filter (fun i => (s.tok i).st == st))
  w32 (b2n a.session.isSome + place (a.session.getD 0) 1 3 + place (b2n s.throttled) 4 1 +
    place (b2n a.challenge.isSome) 5 1 + place (b2n s.dealerOpen) 6 1 + place (b2n s.dealerLocked) 7 1 +
    place a.lastEnd 8 4 + place a.doorD 12 2 + place (m .active) 16 8 + place (m .pending) 24 8)
def State.accSession (s : State) : Word :=
  w32 (if s.acc.session.isSome then msLeft s.now s.acc.sessionEnd else 0)
def State.accThrottle (s : State) : Word :=
  let left := match s.acc.throttleEnd with | some t => (t - s.now + 99999999) / 100000000 | none => 0
  w32 (place left 0 10 + place (min 9 s.recentInvalid.length) 16 4 + place s.acc.thrEntries 24 8)
def State.accSlotWord (s : State) (i : Nat) : Word :=
  let k := s.tok i
  let st := match k.st with | .empty => 0 | .pending => 1 | .active => 2
  let left := if k.st == .pending then (k.pendFrom + 600000000000 - s.now + 999999999) / 1000000000 else 0
  w32 (st + place (b2n k.battLow) 2 1 + place left 16 10)
/-- Word w of the log entry at ring place i. -/
def State.accLogWord (s : State) (i w : Nat) : Word :=
  match s.acc.log.find? (fun e => bits e.1 0 16 % 16 == i) with
  | some e => (match w with | 0 => e.1 | 1 => e.2.1 | 2 => e.2.2.1 | 3 => e.2.2.2.1 | _ => e.2.2.2.2)
  | none => 0
/-- ACCESS registers; the key store reads as zeros to every master (R387). -/
def State.readAcc (s : State) (off : Nat) : Option Word :=
  match off with
  | 0x00 => some (s.stored accCfg)
  | 0x04 => some s.accStat
  | 0x08 => some s.accSession
  | 0x0C => some s.accThrottle
  | 0x10 => some (w32 (place s.acc.cntValid 0 8 + place s.acc.cntInvalid 8 8 + place s.acc.cntCorrupt 16 8 + place s.acc.cntRepeat 24 8))
  | 0x14 => some (w32 (place s.acc.cntIgnored 0 8 + place s.acc.cntThrottled 8 8 + place s.acc.lfOk 16 8 + place s.acc.lfFail 24 8))
  | 0x18 => some s.accDealer
  | 0x1C => some (w32 s.acc.sessionT)
  | _ =>
      if off % 4 != 0 then none
      else if 0x8000 ≤ off then some 0
      else if 0x100 ≤ off && off < 0x180 then
        let i := (off - 0x100) / 16
        match off % 16 with
        | 0 => some (s.accSlotWord i)
        | 4 => some (s.tok i).tokenId
        | 8 => some (s.tok i).last
        | _ => none
      else if 0x200 ≤ off && off < 0x400 && off % 32 < 20 then some (s.accLogWord ((off - 0x200) / 32) (off % 32 / 4))
      else none
def State.clearAcc (s : State) (off : Nat) : State :=
  match off with
  | 0x0C => s.updAcc (fun a => { a with thrEntries := 0 })
  | 0x10 => s.updAcc (fun a => { a with cntValid := 0, cntInvalid := 0, cntCorrupt := 0, cntRepeat := 0 })
  | 0x14 => s.updAcc (fun a => { a with cntIgnored := 0, cntThrottled := 0, lfOk := 0, lfFail := 0 })
  | _ => s

/-- ACC_STATUS (R390). -/
def runAccStatus (x : Ctx) (s : State) : State × Out :=
  let from_ := pf x.cmd 2 0 16
  let l := s.acc.log.filter (fun e => decide ((bits e.1 0 16 + 65536 - from_) % 65536 < 32768))
  (s, outWords ([s.accStat, s.accSession, s.accThrottle, w32 s.acc.sessionT,
      w32 (place s.acc.nextEvent 0 16 + place l.length 16 8)] ++
    l.flatMap (fun e => [e.1, e.2.1, e.2.2.1, e.2.2.2.1, e.2.2.2.2])))

end Sys2Proof.Machine
end

