-- ==== Sys2Proof/Machine/Diag.lean ====
section
/-! DEFINITION. Diagnostics: what step 6 of a frame forms for every unit (R190-R192, R203, R204,
R215-R218, R245, R261, R287), its publication at step 1, the aggregates and READ_DIAG (R154-R156), and
the registers of LOADSW (R193, R219). -/

namespace Sys2Proof.Machine

/-! ### Load channels at step 6 -/

/-- Open-load threshold in mA (R203). -/
def olThreshold (n sel : Nat) : Nat :=
  if classH n then
    ([20, 30, 50, 75, 100, 150, 200, 250, 300, 400, 500, 600, 700, 800, 900, 1000][sel]?).getD 0
  else
    ([5, 10, 15, 20, 30, 40, 50, 75, 100, 150, 200, 250, 300, 350, 400, 500][sel]?).getD 0

/-- Code of a drive mode (R173). -/
def modeCode (m : DriveMode) : Nat :=
  match m with
  | .off => 0 | .on => 1 | .pwm => 2 | .pin => 3 | .pulse => 4 | .ramp => 5 | .wait => 6

/-- Applied duty of the diagnostic window (R190). -/
def State.appliedDuty (s : State) (n : Nat) : Nat :=
  let ch := s.ch n
  match ch.act.mode with
  | .off => 0
  | .on => 4095
  | .pwm => ch.act.duty
  | .ramp => match genRun ch.gen (s.eAt s.now) with
      | (some r, _) => runDuty ch r (s.eAt s.now)
      | (none, _) => 0
  | .pin => (s.pinOf n).duty
  | .pulse | .wait => if ch.smp.isEmpty then 0 else 4095 * (ch.smp.filter (·.on)).length / ch.smp.length

/-- Applied frequency (R191). -/
def State.appliedFreq (s : State) (n : Nat) : Nat :=
  match (s.ch n).act.mode with
  | .pwm | .ramp => (s.ch n).act.freq
  | .pin => min 8191 (s.pinOf n).freq
  | _ => 0

/-- LOADSW_CH_STAT (R193). -/
def State.loadStat (s : State) (n : Nat) : Word :=
  let ch := s.ch n
  w32 (modeCode ch.act.mode + 8 * b2n ch.demagAt.isSome + 16 * b2n ch.pend.isSome + 32 * b2n (s.gate n) +
    64 * b2n ch.clipped + 128 * b2n (s.pinFault n) + 256 * b2n ch.diag.offHigh + place (s.owner n) 9 3 +
    place ch.diag.cls 12 4 + place (b2n ch.diag.stale) 16 1)

/-- LOADSW_CH_PSTAT (R219). -/
def loadPstat (ch : LoadCh) : Word :=
  w32 (b2n ch.ocLatch + 2 * b2n ch.locked + 4 * b2n ch.thermLatch + 8 * b2n ch.retryHeld +
    16 * b2n ch.admitHeld + 32 * b2n ch.refused + 64 * b2n ch.openLoad + 128 * b2n ch.retireDue +
    256 * b2n ch.spareIn + 512 * b2n ch.driftNoSpare + 1024 * b2n ch.segFail + 2048 * b2n ch.segShort +
    place ch.retryLeft 12 4 + place ch.dueSeg 16 4)

/-- Summary class of a load channel (R192, R218). -/
def State.loadClass (s : State) (n : Nat) : Nat :=
  let ch := s.ch n
  if ch.diag.offHigh || s.pinFault n || ch.segFail || ch.segShort then 6
  else if ch.locked then 5
  else if ch.ocLatch then 4
  else if ch.thermLatch || ch.refused then 3
  else if ch.openLoad then 2
  else if ch.spareIn || s.reduced then 1
  else 0

/-- The diagnostic window overlapped a supply hold-off (R62, R204). -/
def State.holdInWindow (s : State) : Bool := s.supply.low || s.supply.ov || s.supply.lowWin || s.supply.ovWin

/-- Open-load detection of one frame (R204); true where OPEN_LOAD becomes set. -/
def State.openLoadStep (s : State) (n : Nat) : State × Bool :=
  let ch := s.ch n
  let d := ch.diag
  let th := olThreshold n (s.cfg (lcProt n) 4 4)
  let en := s.cfgBit (lcProt n) 12
  let skip := d.stale || d.duty = 0 || s.holdInWindow || s.protOff n || ch.smp.any (·.prot)
  let run := if !en then 0 else if skip then ch.olRun else if d.ioutOn < th then min 16 (ch.olRun + 1) else 0
  let set := en && !skip && decide (s.cfg (lcProt n) 8 4 + 1 ≤ run) && !ch.openLoad
  let clr := !d.stale && decide (9 * th ≤ 8 * d.ioutOn)
  (s.updLoad n (fun c =>
    { c with olRun := run, openLoad := if clr then false else c.openLoad || set
             olEvents := if set then satInc c.olEvents 255 else c.olEvents }), set)

/-- The frame qualifies for segment drift (R215). -/
def State.segQualifies (s : State) (n : Nat) : Bool :=
  let ch := s.ch n
  let t := (s.cl (clusterOf n)).tNow
  decide (ch.modeAt ≤ s.clk.tickNs + s.period / 2) && !ch.diag.stale &&
  (match ch.act.mode with
   | .on => ch.smp.all (·.on)
   | .pwm => decide (160000 ≤ (onCyc ch.act.freq ch.act.duty (s.slew n)).1)
   | _ => false) &&
  decide ((if classH n then 2000 else 625) ≤ ch.diag.ioutOn) && decide (0 ≤ t) && decide (t ≤ 140000000)

/-- DRIFT after a qualifying frame (R215), in 1e-9; the quotients are rounded down (log 9). -/
def driftStep (n : Nat) (tNow : Int) (r base : Nat) (drift : Int) : Int :=
  let k : Int := if classH n then 62 else 69
  let ratio : Int := (r : Int) * (10 : Int) ^ 19 / ((base : Int) * ((10 : Int) ^ 10 + k * (tNow - 25000000)))
  drift + (ratio - (10 : Int) ^ 9 - drift) / 64

/-- One segment in one sampled frame (R215, R216, R218): `act` is the number of active segments and the sum of their
currents, `off` that the channel is OFF and not in DEMAG. -/
def segStep (n seg ma r : Nat) (tNow : Int) (qual off : Bool) (act : Nat × Nat) (g : Seg) : Seg :=
  let short := off && decide ((if classH n then 50 else 15) ≤ ma)
  let g1 := { g with shortRun := if short then min 4 (g.shortRun + 1) else 0 }
  if qual && g.code = 1 then
    { g1 with drift := driftStep n tNow r (Config.segBase n seg) g.drift, samples := satInc g.samples 4095
              openRun := if 5 * ma * act.1 < act.2 then min 4 (g.openRun + 1) else 0 }
  else g1

/-- Number of active segments and the sum of their currents. -/
def activeSum (ch : LoadCh) (n : Nat) (ma : List Nat) : Nat × Nat :=
  let act := (List.range (segCount n)).filter (fun i => (vget ch.segs i).code = 1)
  (act.length, act.foldl (fun a i => a + ma[i]?.getD 0) 0)

/-- What follows from one segment: due for retirement (R216) or shorted (R218). -/
def State.segJudge (s : State) (n i : Nat) : State :=
  let g := vget (s.ch n).segs i
  let s1 := if g.code = 1 ∧ 256 ≤ g.samples ∧ 250000000 < g.drift.natAbs then s.segDue n i 1 else s
  let s2 := if g.code = 1 ∧ 4 ≤ g.openRun then s1.segDue n i 4 else s1
  if g.code ≠ 4 ∧ 4 ≤ g.shortRun then
    (s2.updLoad n (fun c => { c with
      segShort := true, segs := vupd c.segs i (fun x => { x with short_ := true })
      dueSeg := if c.retireDue then c.dueSeg else i })).fault 0x1F n
  else s2

/-- Segment supervision of one channel in one frame. -/
def State.segmentsStep (s : State) (n : Nat) (m : LoadMeas) : State :=
  let ch := s.ch n
  let q := s.segQualifies n
  let off := ch.act.mode == .off && !s.gate n && ch.demagAt.isNone
  let t := (s.cl (clusterOf n)).tNow
  let act := activeSum ch n m.segMa
  let s1 := s.updLoad n (fun c => { c with
    segs := tab 10 (fun i =>
      if i < segCount n then segStep n i (m.segMa[i]?.getD 0) (m.segR[i]?.getD 0) t q off act (vget c.segs i)
      else vget c.segs i) })
  s1.forEach (List.range (segCount n)) (fun a i => a.segJudge n i)

/-- Means of the window's samples that count for IOUT_ON, and of its voltages; rounded down (log 108). -/
def onMean (smp : List Smp) (ma : List Nat) : Option Nat :=
  let l := (smp.zip ma).filterMap (fun p => if p.1.count then some p.2 else none)
  if l.isEmpty then none else some (l.foldl (· + ·) 0 / l.length)
def voltMean (l : List Int) (old : Int) : Int := if l.isEmpty then old else l.foldl (· + ·) 0 / (l.length : Int)

/-- The registers of the channel as step 6 formed them are what step 1 of the next frame publishes (R115). -/
def keepShot (c : LoadCh) : LoadCh := { c with shot := c.diag }

/-- Step 6 of one load channel (R190, R192, R204, R215-R218). -/
def State.sampleLoad (s : State) (n : Nat) (m : LoadMeas) : State :=
  if s.clk.loadRst then s.updLoad n (fun c => { c with shot := { c.shot with sampled := false } })
  else
    let duty := s.appliedDuty n
    let was := (s.ch n).diag.offHigh
    let smp := (s.ch n).smp.reverse
    let volts := (smp.zip m.mv10).map (·.2)
    let iOn := onMean smp m.ma
    let high := (s.ch n).act.mode == .off && (s.ch n).demagAt.isNone && !volts.isEmpty && smp.all (fun x => !x.on) &&
      volts.all (fun v => decide ((s.supply.vbatMv : Int) - 1000 < v * 10))
    let s1 := s.updLoad n (fun c =>
      let i := (iOn.getD c.diag.ioutOn) % 65536
      { c with diag := { c.diag with
          ioutOn := i, stale := iOn.isNone, duty := duty, freq := s.appliedFreq n, vout := voltMean volts c.diag.vout
          ioutAvg := match c.act.mode with | .on => i | .off => 0 | _ => (2 * i * duty + 4095) / 8190
          offHigh := high, phase := (commanded c).phase, sampled := true
          held := s.owner n = 2 || s.owner n = 3 || s.owner n = 4 } })
    let r := s1.openLoadStep n
    let s2 := r.1.faults ((if r.2 then [plainEvent 0x19 n] else []) ++
      (if high && !was then [plainEvent 0x1C n] else []))
    let s3 := s2.segmentsStep n m
    let s4 := s3.updLoad n (fun c => { c with diag := { c.diag with cls := s3.loadClass n } })
    s4.updLoad n (fun c => keepShot { c with diag := { c.diag with stat := s4.loadStat n, pstat := loadPstat c } })

/-! ### Valves and banks at step 6 (R245, R246, R248) -/

def State.sampleValve (s : State) (n ma : Nat) : State :=
  let s1 := s.updValve n (fun v => { v with imeas := ma, sampled := true, cls := s.valveClass n })
  s1.updValve n (fun v => { v with diag := [valveStat v (s.vtherm n) v.cls, valveTimes v, valveEnergy v, valveDecay v] })

def State.sampleBank (s : State) (b ma : Nat) : State :=
  let s1 := s.updBank b (fun k => { k with ibank := ma, sampled := true, cls := s.bankClass b })
  s1.updBank b (fun k => { k with diag := [s1.bankStat b, s1.boostStat, s1.boostMeas] })

/-! ### Step 6 of the frame -/

/-- Step 6 of R112: every unit is sampled once, at the end of the diagnostic window. -/
def State.sampleAll (s : State) (d : DiagIn) : State :=
  if !s.inRun || s.clk.tickCount = 0 || s.clk.sampled || decide (40 * s.clk.phase < 3 * s.period) then s
  else
    let s1 := s.sweepPorts.sweepLoads.forEach s.loads (fun t n => t.sampleLoad n (d.load[n]?.getD default))
    let s2 := { s1 with valve := { s1.valve with iin := d.iin } }
    let s3 := s2.forEach s2.valves (fun t n => t.sampleValve n (d.valveMa[n]?.getD 0))
    let s4 := s3.forEach s3.banks (fun t b => t.sampleBank b (d.bankMa[b]?.getD 0))
    let s5 := (List.range 64).foldl (fun (p : State × List FEvent) n =>
      let r := p.1.samplePort n
      (r.1, p.2 ++ r.2.map (fun e => plainEvent e.1 e.2))) (s4, [])
    let s6 := s5.1.fios.foldl (fun (p : State × List FEvent) n =>
      let r := p.1.sampleFio n
      (r.1, if r.2 then p.2 ++ [plainEvent 0x31 n] else p.2)) s5
    let s7 := s6.1.faults s6.2
    { s7 with clk := { s7.clk with sampled := true }, flt := { s7.flt with sampSafe := s7.flt.safe } }

def execDiagnosticSampling (at_ : Nat) (d : DiagIn) (s : State) : Host.Outcome State Fault Refusal :=
  s.done ((s.atPhase at_).sampleAll d)

/-! ### Publication at step 1 -/

/-- CLIPPED of the frame that ends: an adjustment at any instant of it, whoever owned the output then (R179, R193). -/
def State.noteClips (s : State) : State :=
  let s1 := s.sweepLoads
  s1.forEach s1.loads (fun t n => t.updLoad n (fun ch =>
    { ch with clipped := ch.clipAcc, clipFrames := if ch.clipAcc then satInc ch.clipFrames 255 else ch.clipFrames
              clipAcc := false, smp := [] }))

/-- The samples of the frame that ended are published (R112 step 1, R115). -/
def State.publish (s : State) : State :=
  let ok := s.clk.sampled
  { s with
    load := ⟨⟨s.load.toList.map (fun c => { c with pub := { c.shot with sampled := c.shot.sampled && ok } })⟩, by simp⟩
    valve := { s.valve with
      v := ⟨⟨s.valve.v.toList.map (fun v => { v with pub := v.diag, pubCls := v.cls, pubSampled := v.sampled && ok })⟩, by simp⟩
      b := ⟨⟨s.valve.b.toList.map (fun k => { k with pub := k.diag, pubCls := k.cls, pubSampled := k.sampled && ok })⟩, by simp⟩ }
    flt := { s.flt with pubSafe := s.flt.sampSafe }
    clk := { s.clk with sampled := false, loadRst := false }
    supply := { s.supply with lowWin := false, ovWin := false } }

/-! ### Aggregates and READ_DIAG (R154-R156) -/

/-- Published class of a unit, none where it was not sampled, and whether it was held. -/
def State.unitDiag (s : State) (u : Nat) : Option Nat × Bool :=
  match nodeKind u with
  | some .load =>
      let p := (s.ch (u - 0x0100)).pub
      (if p.sampled then some p.cls else none, p.held)
  | some .valve =>
      let v := s.vl (u - 0x0200)
      (if v.pubSampled then some v.pubCls else none, s.flt.pubSafe)
  | some .bank =>
      let b := s.vb (u - 0x0500)
      (if b.pubSampled then some b.pubCls else none, s.flt.pubSafe)
  | some .input =>
      let p := s.si (u - 0x0300)
      (if p.pubSampled then some p.pubCls else none, false)
  | some .fio =>
      let c := s.fio (u - 0x0400)
      (if c.pubSampled then some c.pubCls else none, s.flt.pubSafe && decide (2 ≤ bits c.pubStat 0 2))
  | _ => (none, false)

/-- The two words of an aggregate over an ascending set of units (R155, R156). -/
def State.aggregate (s : State) (us : List Nat) : List Word :=
  let ds := us.map (fun u => (u, s.unitDiag u))
  let cls := ds.filterMap (fun d => d.2.1.map (fun c => (d.1, c)))
  let worst := cls.foldl (fun a c => max a c.2) 0
  let node := ((cls.find? (fun c => c.2 == worst)).map (·.1)).getD 0
  let cnt := fun (p : Nat × Nat → Bool) => (cls.filter p).length
  [w32 (place worst 0 4 + place us.length 8 8 + place node 16 16),
   w32 (place (cnt (fun c => decide (2 ≤ c.2))) 0 8 + place (cnt (fun c => c.2 == 1)) 8 8 +
     place (ds.filter (fun d => d.2.2)).length 16 8 + place (us.length - cls.length) 24 8)]

/-- Unit words of READ_DIAG (R191, R246, R262, R287). -/
def State.unitWords (s : State) (u : Nat) : List Word :=
  match nodeKind u with
  | some .load =>
      let p := (s.ch (u - 0x0100)).pub
      [p.stat, w32 (place p.ioutOn 0 16 + place p.ioutAvg 16 16),
       w32 ((p.vout % 65536).toNat + place p.phase 16 8), w32 (place p.duty 0 12 + place p.freq 16 13), p.pstat]
  | some .valve => padTo 4 (s.vl (u - 0x0200)).pub
  | some .bank => padTo 3 (s.vb (u - 0x0500)).pub
  | some .input => [(s.si (u - 0x0300)).pubStat, (s.si (u - 0x0300)).pubSense]
  | some .fio => [(s.fio (u - 0x0400)).pubStat, (s.fio (u - 0x0400)).pubMeas]
  | _ => []

/-- Direct members of a cask or of the root, in the order of R156. -/
def State.directMembers (s : State) (node : Nat) : List Nat :=
  if node = 0 then s.units else (caskMembers s.live.casks node).getD []

/-- Entries of direct members from START: at most 83 (R156). -/
def State.memberEntries (s : State) (node start : Nat) : List Word :=
  let ms := (s.directMembers node).drop start
  let now := ms.take 83
  let next := if 83 < ms.length then start + 83 else 0xFFFF
  w32 (place now.length 0 8 + place next 16 16) ::
    now.flatMap (fun m => w32 m :: s.aggregate (s.unitSet m))

def runReadDiag (x : Ctx) (s : State) : State × Out :=
  let node := x.cmd.node
  let tail :=
    if !isGroup node then s.unitWords node
    else if optBit x.cmd 0 then s.memberEntries node (pf x.cmd 2 0 16)
    else []
  (s, { outWords (s.aggregate (s.unitSet node) ++ tail) with
        cask := isGroup node, tick := some ((s.clk.tickCount + 2 ^ 32 - 1) % 2 ^ 32) })

/-! ### LOADSW registers (R193, R219) -/

/-- One word of a mask of channels. -/
def State.loadMask (s : State) (hi : Bool) (p : Nat → Bool) : Word :=
  w32 (listMask ((List.range (if hi then 16 else 32)).filter (fun i =>
    let n := if hi then 32 + i else i
    hasLoad s.var n && p n)))

/-- A signed value in 16 bits, stopping at the ends. -/
def sat16 (v : Int) : Nat := ((max (-32768) (min 32767 v)) % 65536).toNat

/-- LOADSW_PWMIN_STAT (R193). -/
def State.pinStat (s : State) (p : Nat) : Word :=
  let q := vget s.pins p
  let act := match q.lastRise with | some t => decide (s.now ≤ t + 100000000) | none => false
  w32 (place (min 8191 q.freq) 0 13 + place q.duty 16 12 + place (b2n act) 30 1 + place (b2n q.overFF) 31 1)

/-- A register of channel n, by offset in its 0x100 bytes. -/
def State.readChannel (s : State) (n off : Nat) : Option Word :=
  let ch := s.ch n
  let sp := commanded ch
  let seg := (off - 0x60) / 4
  if off % 4 != 0 then none
  else if 0x60 ≤ off ∧ off ≤ 0x84 then
    let g := vget ch.segs seg
    some (if seg < segCount n then
      w32 (sat16 (g.drift / 100000) + place g.samples 16 12 + place g.code 28 4) else 0)
  else if 0x90 ≤ off ∧ off ≤ 0xB4 then
    some (if (off - 0x90) / 4 < segCount n then w32 (Config.segBase n ((off - 0x90) / 4) % 65536) else 0)
  else match off with
    | 0x00 => some (s.stored (lcBase n))
    | 0x04 => some (w32 (place sp.duty 0 12 + place sp.freq 16 13 + place (modeCode sp.mode) 29 3))
    | 0x08 => some (w32 (place sp.phase 0 8))
    | 0x0C => some (s.loadStat n)
    | 0x10 => some (w32 (place ch.diag.ioutOn 0 16 + place ch.diag.ioutAvg 16 16))
    | 0x14 => some (w32 (ch.diag.vout % 65536).toNat)
    | 0x18 => some (w32 (place ch.demagTime 0 16 + place ch.demagMj 16 12))
    | 0x1C => some (w32 (place ch.pendCancel 0 8 + place ch.clipFrames 8 8 + place ch.clampLong 16 8))
    | 0x40 => some (s.stored (lcProt n))
    | 0x44 => some (s.stored (lcLoad n))
    | 0x48 => some (loadPstat ch)
    | 0x4C => some (w32 (place ch.ocEvents 0 8 + place ch.thermEvents 8 8 + place ch.olEvents 16 8 + place ch.admitRefused 24 8))
    | 0x50 => some (match ch.retryAt with
        | some t => w32 (place (msLeft s.now (t + 999999)) 0 16 + place ch.curDelay 16 16)
        | none => 0)
    | 0x54 => some (w32 (place ch.rModel 0 16 + place (min 65535 ch.pUnitMw) 16 16))
    | 0x58 =>
        let m := fun (p : Nat → Bool) => listMask ((List.range (segCount n)).filter (fun i => p (vget ch.segs i).code))
        some (w32 (m (· == 1) + place (m (fun k => k == 2 || k == 3)) 16 10))
    | _ => none

/-- LOADSW registers by offset in the window; a present channel is assumed below 0x3000. -/
def State.readLoad (s : State) (off : Nat) : Option Word :=
  if off < 0x3000 then s.readChannel (off / 0x100) (off % 0x100)
  else if off % 4 != 0 then none
  else if off < 0x3020 then some (s.stored (0x40030000 + off))
  else if off < 0x3040 then some (s.pinStat ((off - 0x3020) / 4))
  else
    let hi := off / 4 % 2 == 1
    match off / 8 * 8 with
    | 0x3040 => some (s.loadMask hi s.gate)
    | 0x3048 => some (s.loadMask hi (fun n => (s.ch n).pend.isSome))
    | 0x3050 => some (s.loadMask hi (fun n => (s.ch n).demagAt.isSome))
    | 0x3100 => some (s.loadMask hi (fun n => (s.ch n).ocLatch))
    | 0x3108 => some (s.loadMask hi (fun n => (s.ch n).locked))
    | 0x3110 => some (s.loadMask hi (fun n => (s.ch n).thermLatch))
    | 0x3118 => some (s.loadMask hi (fun n => (s.ch n).openLoad))
    | _ => none

/-- RC fields of LOADSW clear on a read. -/
def State.clearLoad (s : State) (off : Nat) : State :=
  let n := off / 0x100
  if 0x3000 ≤ off then s
  else match off % 0x100 with
    | 0x1C => s.updLoad n (fun c => { c with pendCancel := 0, clipFrames := 0, clampLong := 0 })
    | 0x4C => s.updLoad n (fun c => { c with ocEvents := 0, thermEvents := 0, olEvents := 0, admitRefused := 0 })
    | _ => s

end Sys2Proof.Machine
end

