-- ==== Sys2Proof/Machine/Bus.lean ====
section
/-! DEFINITION. The bus: who reaches what (R13-R18), absent, gated and undecoded accesses (R15, R37,
R105), registers of SYSCTL, FRAME and FAULT, reads with their effects (R6, R109, R255, R280, R281),
direct writes of staged registers (R163), and the coprocessor window (R411). -/

namespace Sys2Proof.Machine

/-! ### Where an access goes -/

def inPeriph (a : Nat) : Bool := decide (0x40000000 ≤ a) && decide (a < 0x40110000)
def inCop (a : Nat) : Bool := decide (0x50000000 ≤ a) && decide (a < 0x50010000)

/-- The address belongs to a resource that the variant lacks (R37). -/
def absentAt (v a : Nat) : Bool :=
  if inCop a then !hasCopro v
  else if !inPeriph a then false
  else
    let off := a % 0x10000
    match winIndex a with
    | 3 => decide (off < 0x3000) && !hasLoad v (off / 0x100)
    | 4 => !hasBoost v ||
        (decide (0x100 ≤ off) && decide (off < 0x140) && !hasBank v ((off - 0x100) / 0x10)) ||
        (decide (0x200 ≤ off) && decide (off < 0x300) && !hasValve v ((off - 0x200) / 0x20))
    | 5 => decide (off / 4 = 0x108) && !hasAccess v
    | 6 => !hasField v
    | 7 => !hasCan v (off / 0x4000)
    | 8 => decide (off / 0x1000 < 6) && !hasLin v (off / 0x1000)
    | 9 => !hasNet v || (decide (off / 0x1000 < 2) && !hasT1s v (off / 0x1000))
    | 12 => !hasAccess v
    | _ => false

/-- The clocks of a block are gated for 1 µs from a block reset, less the time that the gate waited for a
busy port (R103, R104). -/
def State.gatedBlock (s : State) (b : Nat) : Bool :=
  s.clk.gated.any (fun g => g.1 == b && decide (s.now < g.2 + 1000)) &&
  !s.clk.gateWait.any (fun w => w.1 == b && decide (s.now < w.2))

/-- A segment descriptor grants a word access: its limits, R and W decide (R18, R394, R397). -/
def segGrants (d : SegDesc) (wr : Bool) (a : Nat) : Bool :=
  decide (d.base ≤ a) && decide (a + 4 ≤ d.base + d.limit) && (if wr then d.w else d.r)

/-- What the segment descriptors of the applet core grant (R18). -/
def State.segReach (s : State) (wr : Bool) (a : Nat) : Bool := s.core.seg.toList.any (fun d => segGrants d wr a)

/-- Reach of a master by its ID (R17, R18); that of the applet core is what its segments grant, never the
ACCESS window. -/
def reaches (m : Nat) (wr : Bool) (a : Nat) : Bool :=
  let mem := inRom a || inFlash a || inSram a
  if wr && (inRom a || inFlash a) then false
  else match m with
  | 0 => mem || inPeriph a || inCop a
  | 1 => mem || inCop a || (inPeriph a && winIndex a != 12)
  | 2 => (inSram a || inPeriph a) && !(wr && decide (0x20040000 ≤ a) && decide (a < 0x20048000))
  | 3 =>
      if wr then
        (decide (0x20030000 ≤ a) && decide (a < 0x20040000)) || (decide (0x20048000 ≤ a) && decide (a < 0x20060000)) ||
        (inPeriph a && winIndex a != 12) || inCop a
      else mem || inPeriph a || inCop a
  | 4 => mem
  | 5 => (decide (0x20030000 ≤ a) && decide (a < 0x20040000)) ||
      (inPeriph a && (winIndex a == 7 || winIndex a == 8 || winIndex a == 9))
  | _ => false

/-- Bytes of an access size. -/
def sizeBytes (sz : Nat) : Nat := match sz with | 0 => 1 | 1 => 2 | _ => 4
/-- Size and alignment allowed at the address (R16). -/
def sizeOk (sz a : Nat) : Bool :=
  if inRom a || inFlash a || inSram a then a % sizeBytes sz == 0 else sz == 2 && a % 4 == 0

/-! ### SYSCTL, FRAME and FAULT (R93, R116, R169, R445) -/

/-- SYSCTL_PWR_STAT. -/
def State.pwrStat (s : State) : Word :=
  let m := match s.pwr.entry with
    | some e => if e.cellar then 3 else 2
    | none => if s.inRun && !s.pwr.woken then 1 else 0
  let st := match s.pwr.entry with | some e => e.step | none => 0
  w32 (m + place st 2 2 + place s.pwr.refuser 8 5 + place s.pwr.abandon 16 4 + place (b2n s.pwr.woke) 20 1)

/-- SYSCTL_CLK_STAT: domains run as R102 and R103 say. -/
def State.clkStat (s : State) : Word :=
  let dom := if s.inRun then 0x97 + 8 * b2n (hasNet s.var) + 64 * b2n s.fldRuns + 32 * b2n s.link.hcsnLow
    else 0x83 + 32 * b2n s.link.hcsnLow
  w32 (place s.clk.xclkSel 0 4 + place s.clk.src 4 2 + place (b2n s.clk.pllLock) 6 1 +
    place (b2n (s.clk.rampDir == 2 || (s.clk.rampDir == 1 && decide (s.clk.rampExp < 3)))) 7 1 + place (b2n s.clk.xclkOk) 8 1 + place dom 16 8)

def State.readSysctl (s : State) (off : Nat) : Option Word :=
  match off with
  | 0x00 => some (w32 (s.region + 12 + place (b2n s.supply.vioOk) 4 1 + place (b2n s.supply.lowSeen) 8 1 +
      place (b2n s.supply.ovSeen) 9 1))
  | 0x04 => some (w32 (place s.supply.vbatMv 0 16))
  | 0x08 => some (w32 (place s.pwr.rstCause 0 7))
  | 0x0C => some 0
  | 0x10 | 0x20 | 0x24 | 0x28 | 0x2C | 0x30 | 0x40 | 0x48 | 0x4C => some (s.stored (0x40000000 + off))
  | 0x34 =>
      let left := match s.pwr.leaseEnd with | some t => msLeft s.now t | none => 0
      some (w32 (s.pwr.holdState + place left 8 13 + place (b2n s.pwr.limpActive) 31 1))
  | 0x38 => some (s.loadMask false (fun n => (s.ch n).keeper.held))
  | 0x3C => some (s.loadMask true (fun n => (s.ch n).keeper.held))
  | 0x44 => some s.pwrStat
  | 0x50 => some s.pwr.wakeRec
  | 0x54 => some (w32 s.pwr.wakeTime)
  | 0x100 => some s.clkStat
  | 0x104 => some (w32 (place s.clk.lastCount 0 10 + place s.clk.failWin 16 8))
  | 0x108 => some (w32 (place s.clk.parkHz 0 16))
  | 0x10C => some (w32 (listMask ((List.range 17).filter (fun b => blockPresent s.var b && !s.gatedBlock b))))
  | _ => none
def State.clearSysctl (s : State) (off : Nat) : State :=
  match off with
  | 0x44 => { s with pwr := { s.pwr with abandon := 0, woke := false } }
  | 0x104 => { s with clk := { s.clk with failWin := 0 } }
  | _ => s

/-- FRAME_VAT_CFG.LEASE in ns as it acts: 10 s where it is outside 1-60, and from its write on for a running lease too.
DESIGN CHOICE, log 99: the spec says neither. -/
def State.vatLeaseNs (s : State) : Nat :=
  let l := bits s.vatCfg 0 6
  (if 1 ≤ l ∧ l ≤ 60 then l else 10) * 1000000000
def vatCode (v : VatState) : Nat :=
  match v with | .closed => 0 | .open => 1 | .checking => 2 | .checked => 3 | .bottling => 4
/-- The vat lease runs (R167). -/
def vatLeased (v : VatState) : Bool := match v with | .open | .checked => true | _ => false
/-- Remaining vat lease in 100 ms units, rounded down (DESIGN CHOICE, log 98). In CHECKING and BOTTLING it stands
still at the full lease, since the command that led there has restarted it (R167). -/
def State.vatLeft (s : State) : Nat :=
  match s.vat.st with
  | .closed => 0
  | .checking | .bottling => s.vatLeaseNs / 100000000
  | _ => (s.vat.leaseFrom + s.vatLeaseNs - s.now) / 100000000
/-- Member entries of a cask table. -/
def caskEntries (t : List (Nat × List Nat)) : Nat := t.foldl (fun a c => a + c.2.length) 0

def State.readFrame (s : State) (off : Nat) : Option Word :=
  match off with
  | 0x00 => some (s.stored 0x40010000)
  | 0x04 => some (w32 s.clk.tickCount)
  | 0x08 => some (if s.inRun && !s.pwr.woken then w32 s.clk.tickNs else 0)
  | 0x0C => some (if s.inRun && !s.pwr.woken then w32 (place s.clk.phase 0 20) else 0)
  | 0x10 => some (w32 (place s.clk.rackTime 0 16 + place s.clk.rackMax 16 16))
  | 0x14 => some (w32 (place s.clk.overrun 0 8 + place s.clk.slip 8 8))
  | 0x18 => some (w32 (tickCycles s.clk.tickSel))
  | 0x100 => some (w32 (vatCode s.vat.st + place s.vatLeft 8 10 + place s.vat.lastEnd 24 3))
  | 0x104 => some s.vatCfg
  | 0x108 => some (w32 (place s.vat.resReason 0 8 + place s.vat.resFails 8 8 + place s.vat.resWhere 16 16))
  | 0x10C => some (w32 s.vat.liveGen)
  | 0x110 => some (w32 (place s.eng.deferUsed 0 6 + place s.eng.cancelled 16 8))
  | 0x114 => some (w32 (place s.live.casks.length 0 11 + place (caskEntries s.live.casks) 16 14))
  | 0x118 => some (w32 (place s.eng.cntOpcode 0 8 + place s.eng.cntNode 8 8 + place s.eng.cntAbsent 16 8 + place s.eng.cntParam 24 8))
  | 0x11C => some (w32 (place s.eng.cntNotPermitted 0 8 + place s.eng.cntThermal 8 8 + place s.eng.cntVat 16 8 + place s.eng.cntDeferred 24 8))
  | _ => none
def State.clearFrame (s : State) (off : Nat) : State :=
  match off with
  | 0x10 => { s with clk := { s.clk with rackMax := 0 } }
  | 0x14 => { s with clk := { s.clk with overrun := 0, slip := 0 } }
  | 0x110 => { s with eng := { s.eng with cancelled := 0 } }
  | 0x118 => { s with eng := { s.eng with cntOpcode := 0, cntNode := 0, cntAbsent := 0, cntParam := 0 } }
  | 0x11C => { s with eng := { s.eng with cntNotPermitted := 0, cntThermal := 0, cntVat := 0, cntDeferred := 0 } }
  | _ => s

def State.clearLink (s : State) (off : Nat) : State :=
  match off with
  | 0x0C => { s with link := { s.link with errCrc := 0, errSeq := 0, errFraming := 0, errOverrun := 0 } }
  | 0x10 => { s with link := { s.link with errBusy := 0, reread := 0, idleAbort := 0 } }
  | _ => s

def State.readFault (s : State) (off : Nat) : Option Word :=
  if off % 4 != 0 then none
  else if 0x100 ≤ off ∧ off < 0x280 then some (s.stored (0x400D0000 + off))
  else if 0x300 ≤ off ∧ off < 0x480 then some (s.srcStat ((off - 0x300) / 4))
  else if 0x800 ≤ off ∧ off < 0xE00 then
    some (((capWords (s.src ((off - 0x800) / 16)).cap)[off % 16 / 4]?).getD 0)
  else match off with
    | 0x00 => some (s.stored 0x400D0000)
    | 0x04 => some s.faultStat
    | 0x08 => some s.faultRecov
    | 0x0C => some (w32 (place s.flt.lastChip 0 8))
    | 0x10 | 0x14 | 0x18 => some (s.faultSevere ((off - 0x10) / 4))
    | 0x20 | 0x24 | 0x28 => some (s.faultPend ((off - 0x20) / 4))
    | 0x30 | 0x34 | 0x38 | 0x3C => some (((capWords s.flt.first)[off % 16 / 4]?).getD 0)
    | _ => none
def State.clearFault (s : State) (off : Nat) : State :=
  if 0x300 ≤ off ∧ off < 0x480 then s.updSrc ((off - 0x300) / 4) (fun f => { f with total := 0, severeCnt := 0 })
  else s

/-! ### The coprocessor window (R411) -/

/-- TB0 in ns at the instruction that the applet core is at: a run takes no time of the frame (log 19), so its cycles of
5 ns count from now. -/
def State.coreNow (s : State) : Nat := s.now + (if s.core.run == .running then 5 * s.core.cycles else 0)
/-- An encryption is in progress in the window bank. -/
def State.copBusy (s : State) : Bool := s.win.busy && decide (s.coreNow < s.win.busyUntil)
/-- SYS cycles that a read of COP_AES_OUT waits for the encryption in progress (R411). -/
def State.copWait (s : State) (a : Nat) : Nat :=
  if 0x50000040 ≤ a && a < 0x50000050 && s.copBusy then (s.win.busyUntil - s.coreNow + 4) / 5 else 0
/-- A block of the coprocessor: byte 4i + j in bits [31 − 8j : 24 − 8j] of word i (R409). -/
def copBlock (v : Vector Word 4) : BitVec 128 := vget v 0 ++ vget v 1 ++ vget v 2 ++ vget v 3
/-- The words of a block. -/
def blockWords (b : BitVec 128) : Vector Word 4 :=
  tab 4 (fun i => BitVec.ofNat 32 (b.toNat >>> (32 * (3 - i))))
/-- AES-128 encryption of IN under KEY (R409). -/
def copEncrypt (c : CopBank) : CopBank := { c with out := blockWords (aes128 (copBlock c.key) (copBlock c.inp)) }

def State.readCop (s : State) (off : Nat) : Option Word :=
  let i := off / 4 % 4
  match off with
  | 0x00 => some (s.win.acc.setWidth 32)
  | 0x04 => some ((s.win.acc >>> 32).setWidth 32)
  | 0x08 => some s.win.crc
  | 0x0C => some 0
  | 0x10 | 0x14 | 0x18 | 0x1C => some 0
  | 0x20 | 0x24 | 0x28 | 0x2C => some (vget s.win.inp i)
  | 0x30 => some (w32 (2 * b2n s.copBusy))
  | 0x40 | 0x44 | 0x48 | 0x4C => some (vget s.win.out i)
  | _ => none

/-- A write to the window bank; one that waits for an encryption lands after it. -/
def State.writeCop (s : State) (off : Nat) (v : Word) : State :=
  let c := s.win
  let i := off / 4 % 4
  let idle : CopBank := { c with busy := false }
  let c1 : CopBank := match off with
    | 0x00 => { c with acc := (c.acc >>> 32).setWidth 32 ++ v }
    | 0x04 => { c with acc := v ++ c.acc.setWidth 32 }
    | 0x08 => { c with crc := v }
    | 0x0C => { c with crc := crcWord c.crc v }
    | 0x10 | 0x14 | 0x18 | 0x1C => { idle with key := vput c.key i v }
    | 0x20 | 0x24 | 0x28 | 0x2C => { idle with inp := vput c.inp i v }
    | 0x30 => if bit v 0 then { copEncrypt idle with busy := true, busyUntil := (if s.copBusy then c.busyUntil else s.coreNow) + 60 } else c
    | _ => c
  { s with win := c1 }

/-! ### Latches of 64-bit values (R109, R281) -/

def State.latch (s : State) (num m v : Nat) : State :=
  { s with latches := { hi := kvPut s.latches.hi 0 (num * 8 + m) v } }
def State.latched (s : State) (num m : Nat) : Word := w32 ((kvGet s.latches.hi (num * 8 + m)).getD 0)

/-- FIELD_EDGE_INFO(e) now. -/
def State.edgeInfo (s : State) (e : Nat) : Word :=
  w32 (b2n (vget s.field.edge e).dir + place (vget s.field.edge e).count 8 8)

/-! ### Windows -/

/-- Offset inside a CAN controller's registers of an object word: object and word (R298, R320). -/
def canObjWord (off : Nat) : Option (Nat × Nat) :=
  if 0x1000 ≤ off ∧ off < 0x3800 ∧ off % 4 = 0 then
    some ((off - 0x1000) / 0x50, (off - 0x1000) % 0x50 / 4)
  else none
/-- Offset inside a LIN channel's registers of a receive buffer word (R321). -/
def linBufWord (off : Nat) : Option (Nat × Nat) :=
  if 0x400 ≤ off ∧ off < 0x800 ∧ off % 4 = 0 then some ((off - 0x400) / 16, off % 16 / 4) else none

/-- The register that a read of this address returns, without any effect; none where no register
decodes. Object and buffer words, 64-bit values and edge records stand as 0 here. -/
def State.peekReg (s : State) (a : Nat) : Option Word :=
  let off := a % 0x10000
  if inCop a then s.readCop off
  else match winIndex a with
  | 0 => s.readSysctl off
  | 1 => s.readFrame off
  | 2 => s.readLink off
  | 3 => s.readLoad off
  | 4 => s.readValve off
  | 5 => s.readSwin off
  | 6 => s.readField off
  | 7 => if (canObjWord (off % 0x4000)).isSome then some 0 else s.readCan (off / 0x4000) (off % 0x4000)
  | 8 => if 6 ≤ off / 0x1000 then none
      else if (linBufWord (off % 0x1000)).isSome then some 0 else s.readLin (off / 0x1000) (off % 0x1000)
  | 9 => if 2 ≤ off / 0x1000 then none else s.readT1s (off / 0x1000) (off % 0x1000)
  | 10 => if off < 0x40 ∧ off % 4 = 0 then some 0 else s.readTime off
  | 11 => s.readNm off
  | 12 => s.readAcc off
  | 13 => s.readFault off
  | 14 => s.readMemint off
  | 15 => s.readTherm off
  | 16 => s.readFeat off
  | _ => none

/-- Change latches that a register read returns are cleared by it (R255, R280). -/
def State.clearChanges (s : State) (a : Nat) : State :=
  if a = 0x40050418 then s.forEach (List.range 32) (fun t n => t.updPort n (fun p => { p with regLatch := false }))
  else if a = 0x4005041C then
    s.forEach (List.range 32) (fun t n => t.updPort (32 + n) (fun p => { p with regLatch := false }))
  else if a = 0x40060014 then s.forEach (List.range 16) (fun t n => t.updFio n (fun p => { p with regLatch := false }))
  else s

/-- What a read clears (R6). -/
def State.clearOnRead (s : State) (a : Nat) : State :=
  let off := a % 0x10000
  if inCop a then s
  else match winIndex a with
  | 0 => s.clearSysctl off
  | 1 => s.clearFrame off
  | 2 => s.clearLink off
  | 3 => s.clearLoad off
  | 4 =>
      if off = 0xC then { s with valve := { s.valve with cntNotReady := 0, cntOv := 0, cntFail := 0 } }
      else if 0x200 ≤ off ∧ off < 0x300 ∧ off % 0x20 = 0x18 then
        s.updValve ((off - 0x200) / 0x20) (fun v => { v with deferred := 0, pendCancel := 0 })
      else s
  | 5 => s.clearChanges a
  | 6 =>
      if off = 8 then s.updField (fun f => { f with fv24Min := none })
      else if off = 0xC then s.updField (fun f => { f with crcDn := 0, crcUp := 0 })
      else s.clearChanges a
  | 7 => s.clearCan (off / 0x4000) (off % 0x4000)
  | 8 => s.clearLin (off / 0x1000) (off % 0x1000)
  | 9 => s.clearT1s (off / 0x1000) (off % 0x1000)
  | 10 => s.clearTime off
  | 11 => s.clearNm off
  | 12 => s.clearAcc off
  | 13 => s.clearFault off
  | 14 => s.clearMemint off
  | 15 => if off = 0x1C then { s with therm := { s.therm with refCmd := 0, refRel := 0 } } else s
  | _ => s

/-- A read of a decoded register with its effects; none where a CAN object word cannot be delivered
(R302). -/
def State.readReg (s : State) (m a : Nat) (f : CodeFind) : State × Option Word :=
  let off := a % 0x10000
  let plain : State × Option Word := (s.clearOnRead a, s.peekReg a)
  if inCop a then
    if off = 0 then (s.latch 1000 m (s.win.acc.toNat >>> 32), s.peekReg a)
    else if off = 4 then (s, some (s.latched 1000 m))
    else plain
  else match winIndex a with
  | 5 => (s.sweepPorts.clearOnRead a, s.sweepPorts.peekReg a)
  | 6 =>
      if 0x1C0 ≤ off ∧ off < 0x1E0 then
        let e := (off - 0x1C0) / 8
        if off % 8 = 0 then (s.latch (2000 + e) m (s.edgeInfo e).toNat, some (s.edgeT e))
        else
          let v := s.latched (2000 + e) m
          (s.updField (fun x => { x with edge := vupd x.edge e (fun g => { g with count := g.count - bits v 8 8 }) }),
           some v)
      else plain
  | 7 =>
      match canObjWord (off % 0x4000) with
      | some (o, w) => s.canReadWord (off / 0x4000) o w m f
      | none => plain
  | 8 =>
      match linBufWord (off % 0x1000) with
      | some (id, w) =>
          let r := s.linReadWord (off / 0x1000) id w m
          (r.1, some r.2)
      | none => plain
  | 10 =>
      if off < 0x40 then
        match s.time64 off with
        | some v => (s.latch (off / 8) m (v / 2 ^ 32 % 2 ^ 32), some (w32 v))
        | none => (s, some (s.latched (off / 8) m))
      else plain
  | _ => plain

/-! ### Accesses -/

/-- Bits of a staged register that the variant lets a write store: bits of absent channels read 0 and
ignore writes (R93). -/
def writeMaskOf (v a : Nat) : Word :=
  let n := lcCount v
  if a = 0x40000024 ∨ a = 0x4000002C then w32 (2 ^ (min n 32) - 1)
  else if a = 0x40000028 ∨ a = 0x40000030 then w32 (2 ^ (n - 32) - 1)
  else 0xFFFFFFFF

/-- A value for a staged register as it is stored: absent channels and the fixed reactions cannot be
written (R93, R432). -/
def storedValue (v a : Nat) (x : Word) : Word :=
  let y := x &&& writeMaskOf v a
  if 0x400D0100 ≤ a ∧ a < 0x400D0280 then
    match fixedReact ((a - 0x400D0100) / 4) with
    | some r => (y &&& 0xF8FFFFFF) ||| w32 (place r 24 3)
    | none => y
  else y

/-- Direct writes that act at once. LOADSW_CH_CFG and LOADSW_PWMIN_CFG act from the next output update,
SWIN and FIELD registers from the next racking, and CAN, LIN and T1S registers when a controller leaves
DISABLED (R193, R267, R290, R320, R321, R347); R219 gives LOADSW_CH_PROT and LOADSW_CH_LOAD no delay. -/
def actsAtOnce (a : Nat) : Bool :=
  match winIndex a with
  | 3 => decide (a < 0x40033000) && (a % 256 == 0x40 || a % 256 == 0x44)
  | 5 | 6 | 7 | 8 | 9 => false
  | _ => true

/-- A direct write of a staged register (R163). FRAME_TICK_CFG is RO. -/
def State.writeStaged (s : State) (a : Nat) (v : Word) : State :=
  if a = 0x40010000 then s
  else
    let x := storedValue s.var a v
    let s1 := { s with
      regs := stWrite s.regs a x
      svc := if actsAtOnce a then stWrite s.svc a x else s.svc }
    if a = 0x40020014 then
      (if s1.lossEnabled then s1 else { s1 with link := { s1.link with lossState := 0 } })
    else if a = accCfg then s1.accFollow
    else s1

/-- A bit that hardware set in this cycle stays set over a clear in the same cycle (R7). -/
def setNow (at_ : Option Nat) (now : Nat) : Bool := at_ == some now

/-- A write of 1 clears the notifications of register i (R442). -/
def State.writePend (s : State) (i : Nat) (v : Word) : State :=
  s.forEach (maskList v.toNat 32) (fun t k => t.updSrc (32 * i + k) (fun f =>
    { f with pend := f.pend && setNow f.setAt s.now }))
/-- A write of 1 clears the severe bits of register i (R430). -/
def State.writeSevere (s : State) (i : Nat) (v : Word) : State :=
  s.forEach (maskList v.toNat 32) (fun t k => t.updSrc (32 * i + k) (fun f =>
    { f with severe := f.severe && setNow f.setAt s.now }))

/-- A write to SYSCTL_BLOCK_RST that acts (R69, R93). -/
def blockRstActs (v : Nat) (x : Word) : Bool :=
  bits x 8 8 == 0xB5 && resettable (bits x 0 5) && blockPresent v (bits x 0 5)

/-- The effect of a write to a decoded register; RO bits and registers discard it. -/
def State.writeReg (s : State) (a : Nat) (v : Word) : State :=
  if inCop a then s.writeCop (a % 0x10000) v
  else if (stagedAt a).isSome then s.writeStaged a v
  else match a with
  | 0x40000000 => { s with supply := { s.supply with lowSeen := s.supply.lowSeen && (!bit v 8 || setNow s.supply.lowAt s.now)
                                                     ovSeen := s.supply.ovSeen && (!bit v 9 || setNow s.supply.ovAt s.now) } }
  | 0x40000008 => { s with pwr := { s.pwr with
      rstCause := listMask ((maskList s.pwr.rstCause 7).filter (fun i =>
        !bit v i || (i == 6 && setNow s.pwr.blkAt s.now))) } }
  | 0x4000000C => s.blockReset (bits v 0 5)
  | 0x40010104 => { s with vatCfg := w32 (place (bits v 0 6) 0 6) }
  | 0x40020018 => { s with link := { s.link with lost := s.link.lost && (!bit v 2 || setNow s.link.lostAt s.now) } }
  | 0x400A0040 => { s with tim := { s.tim with rcSeen := s.tim.rcSeen && (!bit v 1 || setNow s.tim.rcAt s.now), bridged := s.tim.bridged && !bit v 2 } }
  | 0x400D0010 => s.writeSevere 0 v
  | 0x400D0014 => s.writeSevere 1 v
  | 0x400D0018 => s.writeSevere 2 v
  | 0x400D0020 => s.writePend 0 v
  | 0x400D0024 => s.writePend 1 v
  | 0x400D0028 => s.writePend 2 v
  | 0x400E0020 => s.writeInject v
  | _ => s

/-- A bus error is counted with its capture (R15, R37, R105). -/
def State.busFault (s : State) (src : Nat) (x : BusAcc) (a : Nat) (v : Word) : State :=
  s.faults [{ memEvent src 0 x a with data := v }]

/-- What stops an access before it reaches a register or a memory: fault source and end, in the order
of precedence of R37, R105 and R15. -/
def State.accessStop (s : State) (x : BusAcc) (a : Nat) (wr : Bool) : Option (Nat × BusRes) :=
  if absentAt s.var a then some (0x0D, .absent)
  else if inPeriph a && s.gatedBlock (winIndex a) then some (0x0F, .error)
  else if !reaches x.m wr a || !sizeOk x.size a then some (0x0C, .error)
  else if (inPeriph a || inCop a) && (s.peekReg a).isNone then some (0x0C, .error)
  else none

/-- A bus read: the value, 0xFFFF_FFFF where it ends with a bus error (R15). -/
def State.busRead (s : State) (x : BusAcc) (a : Nat) (f : CodeFind) : State × Word × BusRes :=
  match s.accessStop x a false with
  | some (src, r) => (s.busFault src x a 0, 0xFFFFFFFF, r)
  | none =>
      if inPeriph a || inCop a then
        match s.readReg x.m a f with
        | (s1, some v) => (s1, v, .ok)
        | (s1, none) => (s1, 0xFFFFFFFF, .error)
      else
        match s.readMem x (a / 4 * 4) with
        | (s1, some w) => (s1, w32 (bits w (8 * (a % 4)) (8 * sizeBytes x.size)), .ok)
        | (s1, none) => (s1, 0xFFFFFFFF, .error)

/-- A bus write. A write to SYSCTL_BLOCK_RST that may not act ends as R15 lays down. -/
def State.busWrite (s : State) (x : BusAcc) (a : Nat) (v : Word) : State × BusRes :=
  match s.accessStop x a true with
  | some (src, r) => (s.busFault src x a v, r)
  | none =>
      if a = 0x4000000C && !blockRstActs s.var v then (s.busFault 0x0C x a v, .error)
      else if inPeriph a || inCop a then (s.writeReg a v, .ok)
      else
        let r := s.writeMem x a (sizeBytes x.size) v
        (r.1, if r.2 then .ok else .error)

/-! ### Rows -/

/-- The applet core names an address that no segment grants it; an absent resource answers first (R18, R37). -/
def State.outOfSegs (s : State) (m : Master) (wr : Bool) (a : Nat) : Bool :=
  m == .applet && !absentAt s.var a && !s.segReach wr a
/-- A word read by a master, as a command: the value and how the access ended are kept for the reader
(R15, R21). -/
def State.readRow (s : State) (m : Master) (a : Nat) (f : CodeFind) : State :=
  if s.running then
    let x : BusAcc := { m := m.id, kind := 0, size := 2 }
    if s.outOfSegs m false a then { s.busFault 0x0C x a 0 with busOut := 0xFFFFFFFF, busEnd := .error }
    else
      let r := s.busRead x a f
      { r.1 with busOut := r.2.1, busEnd := r.2.2 }
  else s
/-- A word write by a master, as a command; the master is told how it ended (R21). -/
def State.writeRow (s : State) (m : Master) (a : Nat) (v : Word) : State :=
  if s.running then
    let x : BusAcc := { m := m.id, kind := 1, size := 2 }
    if s.outOfSegs m true a then { s.busFault 0x0C x a v with busEnd := .error }
    else
      let r := s.busWrite x a v
      { r.1 with busEnd := r.2 }
  else s

def execRegisterWrite (at_ : Nat) (m : Master) (addr : Nat) (v : Word) (s : State) : Host.Outcome State Fault Refusal :=
  s.done ((s.atPhase at_).writeRow m addr v)
def execLowWordRead (at_ : Nat) (m : Master) (addr : Nat) (s : State) : Host.Outcome State Fault Refusal :=
  s.done ((s.atPhase at_).readRow m addr .clean)
def execFieldEdgeTRead (at_ : Nat) (m : Master) (n : Fin 4) (s : State) : Host.Outcome State Fault Refusal :=
  s.done ((s.atPhase at_).readRow m (0x400601C0 + 8 * n.val) .clean)
def execSwinChgRead (at_ : Nat) (m : Master) (hi : Bool) (s : State) : Host.Outcome State Fault Refusal :=
  s.done ((s.atPhase at_).readRow m (if hi then 0x4005041C else 0x40050418) .clean)
def execFieldChgRead (at_ : Nat) (m : Master) (s : State) : Host.Outcome State Fault Refusal :=
  s.done ((s.atPhase at_).readRow m 0x40060014 .clean)
def execFaultPendWrite (at_ : Nat) (m : Master) (i : Fin 3) (v : Word) (s : State) : Host.Outcome State Fault Refusal :=
  s.done ((s.atPhase at_).writeRow m (0x400D0020 + 4 * i.val) v)
def execMemintInjectWrite (at_ : Nat) (m : Master) (v : Word) (s : State) : Host.Outcome State Fault Refusal :=
  s.done ((s.atPhase at_).writeRow m 0x400E0020 v)
def execCopCrcWrite (at_ : Nat) (m : Master) (v : Word) (s : State) : Host.Outcome State Fault Refusal :=
  s.done ((s.atPhase at_).writeRow m 0x50000008 v)
def execCopCrcInWrite (at_ : Nat) (m : Master) (v : Word) (s : State) : Host.Outcome State Fault Refusal :=
  s.done ((s.atPhase at_).writeRow m 0x5000000C v)
def execCopAesStart (at_ : Nat) (m : Master) (v : Word) (s : State) : Host.Outcome State Fault Refusal :=
  s.done ((s.atPhase at_).writeRow m 0x50000030 v)

/-- The encryption of the window bank has ended: BUSY clears 12 SYS cycles after it started (R410, R411). -/
def execAesComplete (at_ : Nat) (s : State) : Host.Outcome State Fault Refusal :=
  let s0 := s.atPhase at_
  s.done (if s0.win.busy && decide (s0.win.busyUntil ≤ s0.coreNow) then { s0 with win := { s0.win with busy := false } } else s0)

def execCanObjWord0Read (at_ : Nat) (k : Fin 4) (o : Fin 128) (m : Master) (f : CodeFind) (s : State) :
    Host.Outcome State Fault Refusal :=
  s.done ((s.atPhase at_).readRow m (canBase k + 0x1000 + 0x50 * o.val) f)
def execCanObjLastWordRead (at_ : Nat) (k : Fin 4) (o : Fin 128) (m : Master) (s : State) :
    Host.Outcome State Fault Refusal :=
  let s0 := s.atPhase at_
  s.done (s0.readRow m (canBase k + 0x1000 + 0x50 * o.val + 4 * canLast (canObj (s0.canc k) o).cur) .clean)
def execLinRxbufWord0Read (at_ : Nat) (c : Fin 6) (id : Fin 64) (m : Master) (s : State) :
    Host.Outcome State Fault Refusal :=
  s.done ((s.atPhase at_).readRow m (linBase c + 0x400 + 0x10 * id.val) .clean)
def execLinRxbufLastWordRead (at_ : Nat) (c : Fin 6) (id : Fin 64) (m : Master) (s : State) :
    Host.Outcome State Fault Refusal :=
  s.done ((s.atPhase at_).readRow m (linBase c + 0x40C + 0x10 * id.val) .clean)


/-- An access in flight that still holds the block's port 64 SYS cycles after the request to close is
terminated with a bus error: a read returns 0xFFFF_FFFF, a write is discarded whole, GATE_ABORT counts it
(R104). -/
def State.gateAbort (s : State) (f : Flight) : State :=
  let t := s.faults [{ memEvent 0x0E 0 { m := f.m.id, kind := b2n f.write, size := 2 } f.addr with
    data := if f.write then f.data else 0 }]
  { t with busOut := if f.write then t.busOut else 0xFFFFFFFF, busEnd := .error }

/-- The gate of a block whose port is busy waits: an access that ends within 64 SYS cycles of the request
is served before the gate closes, a longer one is terminated then (R104). `close` makes the reset. -/
def State.gateAfter (s : State) (f : Flight) (close : State → State) : State :=
  if f.left ≤ 64 then
    let t := if f.write then s.writeRow f.m f.addr f.data else s.readRow f.m f.addr .clean
    close { t with clk := { t.clk with gateWait := t.clk.gateWait ++ [(winIndex f.addr, s.now + 5 * f.left)] } }
  else
    let t := s.gateAbort f
    close { t with clk := { t.clk with gateWait := t.clk.gateWait ++ [(winIndex f.addr, s.now + 320)] } }

/-- The block that a write of SYSCTL_BLOCK_RST is to reset has its port held by an access in flight. -/
def flightMeets (v : Word) (f : Flight) : Bool := inPeriph f.addr && winIndex f.addr == bits v 0 5

/-- A write to SYSCTL_BLOCK_RST, with the access that holds the port of the named block, if any. -/
def execBlockRstWrite (at_ : Nat) (m : Master) (w : RstIn) (s : State) : Host.Outcome State Fault Refusal :=
  let s0 := s.atPhase at_
  s.done (match w.flight with
    | none => s0.writeRow m 0x4000000C w.v
    | some x =>
        if flightMeets w.v x && blockRstActs s0.var w.v && s0.running && reaches m.id true 0x4000000C
        then s0.gateAfter x (fun t => t.writeRow m 0x4000000C w.v)
        else s0.writeRow m 0x4000000C w.v)

/-- The 1 µs of a block reset has passed: the clocks of the block run again (R103). -/
def execBlockGateReopen (at_ : Nat) (b : Nat) (s : State) : Host.Outcome State Fault Refusal :=
  let s0 := s.atPhase at_
  s.done { s0 with clk := { s0.clk with
    gated := s0.clk.gated.filter (fun g => !(g.1 == b && decide (g.2 + 1000 ≤ s0.now)))
    gateWait := s0.clk.gateWait.filter (fun g => !(g.1 == b && decide (g.2 ≤ s0.now))) } }

/-- A master that may lock the bus and may hold a lease (R439, R440). -/
def State.mayLock (s : State) (m : Master) : Bool :=
  (m == .ce || m == .dma || m == .netdma) && !s.flt.declared.testBit m.id
/-- A bus lock that was granted l.held SYS cycles ago has lasted 512 of them: BUS_LOCK_LEASE is counted (R439). -/
def execBusLockLeaseExpiry (at_ : Nat) (l : LockIn) (s : State) : Host.Outcome State Fault Refusal :=
  let s0 := s.atPhase at_
  s.done (if s0.running && s0.mayLock l.m && decide (512 ≤ l.held) then s0.faults [blameEvent 0x10 0 l.m.id] else s0)

end Sys2Proof.Machine
end

