-- ==== Sys2Proof/Machine/Xk.lean ====
section
/-! DEFINITION. The XK32 instructions of the applet core (17_xk32_instruction_set): registers, segment
checks (R397), arithmetic (R401), memory, stacks and calls (R402), special registers (R405), the
coprocessor's applet bank (R409, R410), and traps (R407, R408). -/

namespace Sys2Proof.Machine

/-- A trap on the way: code, and the segment, access, size and offset of its record (R408). -/
structure XTrap where
  code : Nat
  seg : Nat
  access : Nat
  size : Nat
  off : Nat
  deriving DecidableEq, Repr, Inhabited

/-- A trap with no access. -/
def plainTrap (code off : Nat) : XTrap := { code := code, seg := 0, access := 5, size := 0, off := off }

/-! ### Registers and cycles -/

/-- General register; g0 reads 0 (R392). -/
def State.gr (s : State) (i : Fin 16) : Word := if i = 0 then 0 else vget s.core.g i
/-- Write a general register; writes to g0 are discarded (R392). -/
def State.setGr (s : State) (i : Fin 16) (v : Word) : State :=
  if i = 0 then s else { s with core := { s.core with g := vput s.core.g i v } }
def State.updCore (s : State) (f : Core → Core) : State := { s with core := f s.core }
/-- Cycles used. -/
def State.spend (s : State) (n : Nat) : State := s.updCore (fun c => { c with cycles := c.cycles + n })
/-- On to the next instruction after n cycles. -/
def State.step4 (s : State) (n : Nat) : State := s.updCore (fun c => { c with pc := c.pc + 4, cycles := c.cycles + n })
/-- A result in rd, then on to the next instruction. -/
def State.result (s : State) (rd : Fin 16) (v : Word) (n : Nat) : State := (s.setGr rd v).step4 n

/-! ### Arithmetic (R401) -/

/-- Signed division towards zero; by 0 it gives 0xFFFF_FFFF. -/
def xDiv (a b : Word) : Word := if b = 0 then 0xFFFFFFFF else BitVec.ofInt 32 (a.toInt.tdiv b.toInt)
def xDivu (a b : Word) : Word := if b = 0 then 0xFFFFFFFF else w32 (a.toNat / b.toNat)
def xRem (a b : Word) : Word := if b = 0 then a else BitVec.ofInt 32 (a.toInt.tmod b.toInt)
def xRemu (a b : Word) : Word := if b = 0 then a else w32 (a.toNat % b.toNat)
def xMulh (a b : Word) : Word := BitVec.ofInt 32 (a.toInt * b.toInt / 2 ^ 32)
def xMulhu (a b : Word) : Word := w32 (a.toNat * b.toNat / 2 ^ 32)
def xBool (b : Bool) : Word := if b then 1 else 0
def xShl (a b : Word) : Word := a <<< (b.toNat % 32)
def xShr (a b : Word) : Word := a >>> (b.toNat % 32)
def xSar (a b : Word) : Word := a.sshiftRight (b.toNat % 32)
def xMin (a b : Word) : Word := if a.slt b then a else b
def xMax (a b : Word) : Word := if a.slt b then b else a
def xMinu (a b : Word) : Word := if a.ult b then a else b
def xMaxu (a b : Word) : Word := if a.ult b then b else a

/-- rd ← f ra rb at a cost of n cycles. -/
def State.alu (f : Word → Word → Word) (n : Nat) (rd ra rb : Fin 16) (s : State) : State × Option XTrap :=
  (s.result rd (f (s.gr ra) (s.gr rb)) n, none)
/-- rd ← f ra imm. -/
def State.aluImm (f : Word → Word → Word) (rd ra : Fin 16) (imm : Word) (s : State) : State × Option XTrap :=
  (s.result rd (f (s.gr ra) imm) 1, none)
/-- rd ← a value. -/
def State.load1 (rd : Fin 16) (v : Word) (s : State) : State × Option XTrap := (s.result rd v 1, none)

/-! ### Segments and memory (R394-R399) -/

def State.segd (s : State) (k : Nat) : SegDesc := vget s.core.seg k

/-- The checks 1 to 5 of R397: the code of the first that fails. -/
def State.segFault (s : State) (k : Nat) (wr : Bool) (sz o : Nat) : Option Nat :=
  let d := s.segd k
  if k = 6 then some 4
  else if d.limit = 0 then some 3
  else if (if wr then !d.w else !d.r) then some 4
  else if d.io && sz != 2 then some 7
  else if o % sizeBytes sz != 0 then some 5
  else if d.limit < o + sizeBytes sz then some 6
  else none

/-- Address of an offset. -/
def State.segAddr (s : State) (k o : Nat) : Nat := ((s.segd k).base + o) % 2 ^ 32

/-- A bus error on a memory word that does not decode is MEM_ECC, any other BUS (R407). -/
def State.busCode (s : State) (x : BusAcc) (a : Nat) : Nat :=
  if (inRom a || inFlash a || inSram a) && (s.accessStop x a false).isNone then 0x0D else 0x08

/-- Cycles of a load and of a store (R406). -/
def loadCost (a : Nat) : Nat := if inFlash a then 4 else if inRom a || inSram a then 2 else 6
def storeCost (a : Nat) : Nat := if inSram a then 1 else 3

/-- A load of size sz from offset o of segment k, recorded under access code acc. -/
def State.xLoad (s : State) (k acc sz o : Nat) : State × (Word ⊕ XTrap) :=
  match s.segFault k false sz o with
  | some c => (s, .inr { code := c, seg := k, access := acc, size := sz, off := o })
  | none =>
      let a := s.segAddr k o
      let x : BusAcc := { m := 1, kind := 0, size := sz }
      match s.busRead x a .clean with
      | (t, v, .ok) => (t, .inl v)
      | (t, _, _) => (t.spend (loadCost a), .inr { code := s.busCode x a, seg := k, access := acc, size := sz, off := o })

/-- A store of size sz to offset o of segment k. -/
def State.xStore (s : State) (k acc sz o : Nat) (v : Word) : State × Option XTrap :=
  match s.segFault k true sz o with
  | some c => (s, some { code := c, seg := k, access := acc, size := sz, off := o })
  | none =>
      let a := s.segAddr k o
      match s.busWrite { m := 1, kind := 1, size := sz } a (w32 (bits v 0 (8 * sizeBytes sz))) with
      | (t, .ok) => (t, none)
      | (t, _) => (t.spend (storeCost a), some { code := 0x08, seg := k, access := acc, size := sz, off := o })

/-- Offset of a format M instruction. -/
def State.offM (s : State) (ra : Fin 16) (imm : BitVec 15) : Nat := (s.gr ra + imm.signExtend 32).toNat

/-- A load instruction: rd ← ext of what is at Sseg + ra + sext(imm15). -/
def State.ld (sz : Nat) (ext : Word → Word) (rd ra : Fin 16) (k : Fin 8) (imm : BitVec 15) (s : State) :
    State × Option XTrap :=
  let o := s.offM ra imm
  match s.xLoad k 1 sz o with
  | (t, .inl v) => (t.result rd (ext v) (loadCost (s.segAddr k o) + s.copWait (s.segAddr k o)), none)
  | (t, .inr e) => (t, some e)

/-- A store instruction: the low part of rd to Sseg + ra + sext(imm15). -/
def State.st (sz : Nat) (rd ra : Fin 16) (k : Fin 8) (imm : BitVec 15) (s : State) : State × Option XTrap :=
  let o := s.offM ra imm
  match s.xStore k 2 sz o (s.gr rd) with
  | (t, none) => (t.step4 (storeCost (s.segAddr k o)), none)
  | (t, some e) => (t, some e)

def sext16 (v : Word) : Word := (v.setWidth 16).signExtend 32
def sext8 (v : Word) : Word := (v.setWidth 8).signExtend 32

def State.xPush (rd : Fin 16) (s : State) : State × Option XTrap :=
  let d := s.core.dsp - 4
  match s.xStore 1 3 2 d.toNat (s.gr rd) with
  | (t, none) => ((t.updCore (fun c => { c with dsp := d })).step4 1, none)
  | (t, some e) => (t, some e)

def State.xPop (rd : Fin 16) (s : State) : State × Option XTrap :=
  match s.xLoad 1 3 2 s.core.dsp.toNat with
  | (t, .inl v) => ((t.updCore (fun c => { c with dsp := c.dsp + 4 })).result rd v 2, none)
  | (t, .inr e) => (t, some e)

/-- A value as DSP takes it: bits [1:0] read 0. -/
def align4 (v : Word) : Word := v &&& 0xFFFFFFFC

def State.xDspadj (imm : BitVec 16) (s : State) : State × Option XTrap :=
  ((s.updCore (fun c => { c with dsp := c.dsp + ((imm ++ (0 : BitVec 2)).signExtend 32) })).step4 1, none)
def State.xDspset (ra : Fin 16) (s : State) : State × Option XTrap :=
  ((s.updCore (fun c => { c with dsp := align4 (s.gr ra) })).step4 1, none)

def State.xRdfeat (rd : Fin 16) (imm : BitVec 18) (s : State) : State × Option XTrap :=
  match s.xLoad 7 1 2 (4 * imm.toNat) with
  | (t, .inl v) => (t.result rd v 6, none)
  | (t, .inr e) => (t, some e)

/-- Special registers (R405). -/
def State.special (s : State) (n : Nat) : Option Word :=
  let c := s.core
  match n with
  | 0 => some (w32 c.cycles)
  | 1 => some (w32 (c.budget - c.cycles))
  | 2 => some (w32 c.slot)
  | 3 => some (w32 s.clk.tickCount)
  | 4 => some (w32 s.clk.tickNs)
  | 5 => some (w32 (c.rs.length + c.spilled))
  | 6 => some (w32 (1 + place (b2n (hasCopro s.var)) 16 1))
  | _ => none

def State.xMfs (rd : Fin 16) (imm : BitVec 18) (s : State) : State × Option XTrap :=
  match s.special imm.toNat with
  | some v => (s.result rd v 1, none)
  | none => (s, some (plainTrap 0x01 0))

/-! ### Branches, calls and the return stack (R402, R403) -/

/-- A jump after n cycles; bits [1:0] of PC are always 0. -/
def State.jump (s : State) (pc : Word) (n : Nat) : State :=
  s.updCore (fun c => { c with pc := align4 pc, cycles := c.cycles + n })
/-- PC + 4 × sext(disp). -/
def State.target {w : Nat} (s : State) (disp : BitVec w) : Word := s.core.pc + (disp.signExtend 32) * 4

def State.branch (taken : Bool) (disp : BitVec 22) (s : State) : State × Option XTrap :=
  (if taken then s.jump (s.target disp) 2 else s.step4 1, none)

/-- The 16 oldest entries go to S6 at the spill pointer, oldest first (R402). -/
def State.spill (s : State) : State × Option XTrap :=
  let ptr := 4 * s.core.spilled
  let d := s.segd 6
  if d.limit < ptr + 64 then (s, some { code := 0x09, seg := 6, access := 4, size := 2, off := ptr })
  else
    let old := (s.core.rs.drop 48).reverse
    let s1 := (old.zipIdx).foldl (fun t p =>
      (t.busWrite { m := 1, kind := 1, size := 2 } ((d.base + ptr + 4 * p.2) % 2 ^ 32) p.1).1) s
    (s1.updCore (fun c => { c with rs := c.rs.take 48, spilled := c.spilled + old.length, cycles := c.cycles + 17 }), none)

/-- Push a return offset; a full core spills first. -/
def State.pushRet (s : State) (v : Word) : State × Option XTrap :=
  let r := if s.core.rs.length < 64 then (s, none) else s.spill
  match r.2 with
  | some e => (r.1, some e)
  | none => (r.1.updCore (fun c => { c with rs := v :: c.rs }), none)

def State.callTo (pc : Word) (s : State) : State × Option XTrap :=
  match s.pushRet (s.core.pc + 4) with
  | (t, none) => (t.jump pc 2, none)
  | (t, some e) => (t, some e)

/-- The newest spilled entries, up to 16, come back into an empty core (R402). -/
def State.fill (s : State) : State × Option XTrap :=
  let n := min 16 s.core.spilled
  let first := s.core.spilled - n
  let r := (List.range n).foldl (fun (p : State × List Word × Option XTrap) i =>
    if p.2.2.isSome then p
    else
      let o := 4 * (first + i)
      let a := ((s.segd 6).base + o) % 2 ^ 32
      let x : BusAcc := { m := 1, kind := 0, size := 2 }
      match p.1.busRead x a .clean with
      | (t, v, .ok) => (t, v :: p.2.1, none)
      | (t, _, _) => (t, p.2.1, some { code := p.1.busCode x a, seg := 6, access := 4, size := 2, off := o })) (s, [], none)
  match r.2.2 with
  | some e => (r.1, some e)
  | none => (r.1.updCore (fun c => { c with rs := r.2.1, spilled := first, cycles := c.cycles + 17 }), none)

/-- The run ends (R403). -/
def State.endRun (s : State) (e : RunEnd) (n : Nat) : State :=
  s.updCore (fun c => { c with run := e, cycles := c.cycles + n })

def State.xRet (s : State) : State × Option XTrap :=
  match s.core.rs with
  | v :: r => ((s.updCore (fun c => { c with rs := r })).jump v 2, none)
  | [] =>
      if s.core.spilled = 0 then (s.endRun .returned 2, none)
      else
        match s.fill with
        | (t, some e) => (t, some e)
        | (t, none) =>
            match t.core.rs with
            | v :: r => ((t.updCore (fun c => { c with rs := r })).jump v 2, none)
            | [] => (t, none)

/-! ### The coprocessor (R409, R410) -/

def sat32 (v : Int) : Word := BitVec.ofInt 32 (max (-2147483648) (min 2147483647 v))
/-- v ÷ 2^f with half of the last discarded bit weight added. -/
def roundShift (v : Int) (f : Nat) : Int := (v + (if f = 0 then 0 else 2 ^ (f - 1))) / 2 ^ f
def qMul (f : Nat) (a b : Word) : Word := sat32 (roundShift (a.toInt * b.toInt) f)
/-- Quotients are cut towards zero, as DIV cuts them (log 11). -/
def qDiv (f : Nat) (a b : Word) : Word :=
  if b = 0 then (if a = 0 then 0 else if a.toInt < 0 then 0x80000000 else 0x7FFFFFFF)
  else sat32 ((a.toInt * 2 ^ f).tdiv b.toInt)
def qAdd (a b : Word) : Word := sat32 (a.toInt + b.toInt)
def qSub (a b : Word) : Word := sat32 (a.toInt - b.toInt)
def satTo (n : Nat) (a : Word) : Word := BitVec.ofInt 32 (max (-(2 ^ (n - 1))) (min (2 ^ (n - 1) - 1) a.toInt))
def satuTo (n : Nat) (a : Word) : Word := BitVec.ofInt 32 (max 0 (min (2 ^ n - 1) a.toInt))
/-- ⌊√n⌋ of a 32-bit number, bit by bit. -/
def isqrtNat (n : Nat) : Nat :=
  ((List.range 16).reverse).foldl (fun r b => if (r + 2 ^ b) * (r + 2 ^ b) ≤ n then r + 2 ^ b else r) 0

/-- A word outside the encodings of R401 and R409, or an immediate outside its stated range. -/
def illegal (s : State) : State × Option XTrap := (s, some (plainTrap 0x01 0))

/-- A coprocessor instruction traps with COP_ABSENT on a variant without it (R38). -/
def State.cop (f : State → State × Option XTrap) (s : State) : State × Option XTrap :=
  if hasCopro s.var then f s else (s, some (plainTrap 0x0A 0))
def State.updCop (s : State) (f : CopBank → CopBank) : State := s.updCore (fun c => { c with cop := f c.cop })
/-- An instruction that changes the bank and no register. -/
def State.copSet (f : State → CopBank → CopBank) : State → State × Option XTrap :=
  State.cop (fun s => ((s.updCop (f s)).step4 1, none))
/-- An instruction that reads the bank. -/
def State.copGet (rd : Fin 16) (f : CopBank → Word) : State → State × Option XTrap :=
  State.cop (fun s => (s.result rd (f s.core.cop) 1, none))
/-- An AES instruction first waits for an encryption in progress; the wait counts (R410). -/
def State.aesWait (s : State) : State :=
  s.updCore (fun c => { c with cycles := max c.cycles c.cop.busyUntil })

/-! ### What each instruction does -/

/-- The effect of an instruction but SVC, whose services stand with the applet runtime. -/
def xkBase (i : Instr) : State → State × Option XTrap :=
  match i with
  | .add rd ra rb => State.alu (· + ·) 1 rd ra rb
  | .sub rd ra rb => State.alu (· - ·) 1 rd ra rb
  | .and_ rd ra rb => State.alu (· &&& ·) 1 rd ra rb
  | .or_ rd ra rb => State.alu (· ||| ·) 1 rd ra rb
  | .xor_ rd ra rb => State.alu (· ^^^ ·) 1 rd ra rb
  | .shl rd ra rb => State.alu xShl 1 rd ra rb
  | .shr rd ra rb => State.alu xShr 1 rd ra rb
  | .sar rd ra rb => State.alu xSar 1 rd ra rb
  | .mul rd ra rb => State.alu (· * ·) 2 rd ra rb
  | .mulh rd ra rb => State.alu xMulh 2 rd ra rb
  | .mulhu rd ra rb => State.alu xMulhu 2 rd ra rb
  | .div rd ra rb => State.alu xDiv 34 rd ra rb
  | .divu rd ra rb => State.alu xDivu 34 rd ra rb
  | .rem rd ra rb => State.alu xRem 34 rd ra rb
  | .remu rd ra rb => State.alu xRemu 34 rd ra rb
  | .min_ rd ra rb => State.alu xMin 1 rd ra rb
  | .max_ rd ra rb => State.alu xMax 1 rd ra rb
  | .minu rd ra rb => State.alu xMinu 1 rd ra rb
  | .maxu rd ra rb => State.alu xMaxu 1 rd ra rb
  | .seq rd ra rb => State.alu (fun a b => xBool (a == b)) 1 rd ra rb
  | .sne rd ra rb => State.alu (fun a b => xBool (a != b)) 1 rd ra rb
  | .slt rd ra rb => State.alu (fun a b => xBool (a.slt b)) 1 rd ra rb
  | .sltu rd ra rb => State.alu (fun a b => xBool (a.ult b)) 1 rd ra rb
  | .sle rd ra rb => State.alu (fun a b => xBool (!b.slt a)) 1 rd ra rb
  | .sleu rd ra rb => State.alu (fun a b => xBool (!b.ult a)) 1 rd ra rb
  | .addi rd ra imm => State.aluImm (· + ·) rd ra (imm.signExtend 32)
  | .andi rd ra imm => State.aluImm (· &&& ·) rd ra (imm.setWidth 32)
  | .ori rd ra imm => State.aluImm (· ||| ·) rd ra (imm.setWidth 32)
  | .xori rd ra imm => State.aluImm (· ^^^ ·) rd ra (imm.setWidth 32)
  | .shli rd ra sh => State.aluImm xShl rd ra (sh.setWidth 32)
  | .shri rd ra sh => State.aluImm xShr rd ra (sh.setWidth 32)
  | .sari rd ra sh => State.aluImm xSar rd ra (sh.setWidth 32)
  | .seqi rd ra imm => State.aluImm (fun a b => xBool (a == b)) rd ra (imm.signExtend 32)
  | .slti rd ra imm => State.aluImm (fun a b => xBool (a.slt b)) rd ra (imm.signExtend 32)
  | .sltui rd ra imm => State.aluImm (fun a b => xBool (a.ult b)) rd ra (imm.signExtend 32)
  | .lui rd imm => State.load1 rd (imm ++ (0 : BitVec 16))
  | .ldw rd ra k imm => State.ld 2 id rd ra k imm
  | .ldh rd ra k imm => State.ld 1 sext16 rd ra k imm
  | .ldhu rd ra k imm => State.ld 1 id rd ra k imm
  | .ldb rd ra k imm => State.ld 0 sext8 rd ra k imm
  | .ldbu rd ra k imm => State.ld 0 id rd ra k imm
  | .stw rd ra k imm => State.st 2 rd ra k imm
  | .sth rd ra k imm => State.st 1 rd ra k imm
  | .stb rd ra k imm => State.st 0 rd ra k imm
  | .push rd => State.xPush rd
  | .pop rd => State.xPop rd
  | .dspadj imm => State.xDspadj imm
  | .dspget rd => fun s => State.load1 rd s.core.dsp s
  | .dspset ra => State.xDspset ra
  | .rdfeat rd imm => State.xRdfeat rd imm
  | .mfs rd imm => State.xMfs rd imm
  | .bz rt disp => fun s => State.branch (s.gr rt == 0) disp s
  | .bnz rt disp => fun s => State.branch (s.gr rt != 0) disp s
  | .call disp => fun s => State.callTo (s.target disp) s
  | .callr ra => fun s => State.callTo (s.gr ra) s
  | .jr ra => fun s => (s.jump (s.gr ra) 2, none)
  | .ret => State.xRet
  | .yield => fun s => (s.endRun .yielded 1, none)
  | .break imm => fun s => (s, some (plainTrap 0x0C imm.toNat))
  | .qmul rd ra rb f => State.cop (State.alu (qMul f.toNat) 1 rd ra rb)
  | .qdiv rd ra rb f => State.cop (State.alu (qDiv f.toNat) 34 rd ra rb)
  | .qadd rd ra rb => State.cop (State.alu qAdd 1 rd ra rb)
  | .qsub rd ra rb => State.cop (State.alu qSub 1 rd ra rb)
  | .sat rd ra n => if n = 0 then illegal else State.cop (State.alu (fun a _ => satTo n.val a) 1 rd ra 0)
  | .satu rd ra n => if n = 0 then illegal else State.cop (State.alu (fun a _ => satuTo n.val a) 1 rd ra 0)
  | .qabs rd ra => State.cop (State.alu (fun a _ => sat32 a.toInt.natAbs) 1 rd ra 0)
  | .isqrt rd ra => State.cop (State.alu (fun a _ => w32 (isqrtNat a.toNat)) 17 rd ra 0)
  | .aclr => State.copSet (fun _ c => { c with acc := 0 })
  | .mac ra rb => State.copSet (fun s c => { c with acc := c.acc + BitVec.ofInt 64 ((s.gr ra).toInt * (s.gr rb).toInt) })
  | .msu ra rb => State.copSet (fun s c => { c with acc := c.acc - BitVec.ofInt 64 ((s.gr ra).toInt * (s.gr rb).toInt) })
  | .ard rd f => State.copGet rd (fun c => sat32 (roundShift c.acc.toInt f.toNat))
  | .ardl rd => State.copGet rd (fun c => c.acc.setWidth 32)
  | .ardh rd => State.copGet rd (fun c => (c.acc >>> 32).setWidth 32)
  | .awr ra rb => State.copSet (fun s c => { c with acc := s.gr rb ++ s.gr ra })
  | .crci ra => State.copSet (fun s c => { c with crc := s.gr ra })
  | .crcw ra => State.copSet (fun s c => { c with crc := crcWord c.crc (s.gr ra) })
  | .crcb ra => State.copSet (fun s c => { c with crc := crcByte c.crc (bits (s.gr ra) 0 8) })
  | .crcr rd => State.copGet rd (fun c => c.crc ^^^ 0xFFFFFFFF)
  | .akey ra i => fun s => State.copSet (fun s c => { c with key := vput c.key i (s.gr ra) }) s.aesWait
  | .ain ra i => fun s => State.copSet (fun s c => { c with inp := vput c.inp i (s.gr ra) }) s.aesWait
  | .aenc => fun s => State.copSet (fun s c => { copEncrypt c with busyUntil := s.core.cycles + 12 }) s.aesWait
  | .aout rd i => fun s => State.copGet rd (fun c => vget c.out i) s.aesWait
  | _ => illegal

/-! ### Traps and issue (R406-R408) -/

/-- The trap record of slot n (R408). -/
def trapRecord (slot : Nat) (pc w : Word) (x : XTrap) : TrapRec :=
  { w0 := w32 (place x.code 0 8 + place x.seg 8 3 + place x.access 11 3 + place x.size 14 2 + place slot 16 3)
    w1 := pc, w2 := w32 x.off, w3 := w }

/-- The run ends with a trap, which is recorded and counted (R407). -/
def State.xkTrap (s : State) (w : Word) (x : XTrap) : State :=
  let n := s.core.slot
  let r := trapRecord n s.core.pc w x
  ((s.updSlot n (fun a => { a with trap := r })).endRun .trapped 0).faults [{ plainEvent 0x4E n with data := r.w0 }]

/-- The budget is used up: the instruction is not issued and the run ends (R406). -/
def State.xkOverrun (s : State) : State := (s.endRun .overrun 0).faults [plainEvent 0x4D s.core.slot]

/-- The core issues an instruction with this effect; in a run the budget is compared first. -/
def State.xkIssue (s : State) (w : Word) (eff : State → State × Option XTrap) : State :=
  if s.core.run == .running && decide (s.core.budget ≤ s.core.cycles) then s.xkOverrun
  else
    match eff s with
    | (t, none) => t
    | (t, some x) => t.xkTrap w x

end Sys2Proof.Machine
end

