-- ==== Sys2Proof/Machine/Arrival.lean ====
section
/-! DEFINITION. Checks 4 to 6 of R125 on an arriving packet, and the charge of a command (R113): what
each opcode's chapter asks of its flags and payload. -/

namespace Sys2Proof.Machine

/-! ### Flags (R140) -/

/-- OPT bits that an opcode defines. -/
def optMask (op : Nat) : Nat :=
  if op = 0x10 ∨ op = 0x15 ∨ op = 0x1A ∨ op = 0x2A ∨ op = 0x31 ∨ op = 0x32 ∨ op = 0x38 ∨ op = 0x39 ∨
     op = 0x40 ∨ op = 0x41 ∨ op = 0x43 ∨ op = 0x44 ∨ op = 0x48 ∨ op = 0x49 ∨ op = 0x50 then 1
  else if op = 0x5B ∨ op = 0x60 then 3
  else 0
/-- The request flags: LATER only where the table allows it and up to 64, no reserved bit set. -/
def flagsOk (op : Nat) (c : HostCmd) : Bool :=
  decide (c.flags / 256 % 16 = 0) && decide (cLater c ≤ 64) && (laterAllowed op || cLater c == 0) &&
  decide (cOpt c &&& optMask op = cOpt c) && (op != 0x60 || cOpt c != 3)

/-! ### Payload helpers -/

/-- Bits of payload word i outside `mask` are 0. -/
def onlyBits (c : HostCmd) (i mask : Nat) : Bool := decide ((pw c i).toNat &&& mask = (pw c i).toNat)
/-- `n` halves of payload words from word i on, two per word, low half first (R151). -/
def halves (c : HostCmd) (i n : Nat) : List Nat :=
  ((c.payload.drop (i - 2)).flatMap (fun w => [bits w 0 16, bits w 16 16])).take n
/-- The unused half of an odd list is 0. -/
def padOk (c : HostCmd) (i n : Nat) : Bool :=
  ((c.payload.drop (i - 2)).flatMap (fun w => [bits w 0 16, bits w 16 16])).drop n |>.all (· == 0)
/-- A node that the full-featured die has and the variant lacks. -/
def nodeAbsent (v id : Nat) : Bool := isUnit id && !unitPresent v id
/-- Items of a VAT_WRITE: address, mask, value. -/
def vatItems : List Word → List (Nat × Word × Word)
  | a :: m :: v :: r => (a.toNat, m, v) :: vatItems r
  | _ => []
/-- Addresses of the items of a VAT_WRITE, a cut last item included. -/
def vatAddrs : List Word → List Nat
  | a :: _ :: _ :: r => a.toNat :: vatAddrs r
  | a :: _ => [a.toNat]
  | [] => []
/-- A segment descriptor from its two words (R394). -/
def descOf (w0 w1 : Word) : SegDesc :=
  { base := w0.toNat, limit := bits w1 0 24, r := bit w1 24, w := bit w1 25, x := bit w1 26, io := bit w1 27 }
/-- Descriptor words of S2–S5 in a BEGIN. -/
def beginDescs (c : HostCmd) : List (Word × Word) := (List.range 4).map (fun k => (pw c (5 + 2 * k), pw c (6 + 2 * k)))
/-- Granted node IDs of a BEGIN. -/
def beginNodes (c : HostCmd) : List Nat := halves c 14 (min 16 (pf c 13 0 5))

/-! ### Check 4: absent resources that a payload names (R34-R36, R38, R415) -/

def payloadAbsent (s : State) (op : Nat) (c : HostCmd) : Bool :=
  let v := s.var
  if c.payload.isEmpty then false
  else match op with
    | 0x40 => !hasCan v (pf c 2 30 2)
    | 0x41 | 0x42 => !hasCan v (pf c 2 0 2)
    | 0x43 | 0x44 | 0x45 | 0x46 => decide (pf c 2 0 3 < 6) && !hasLin v (pf c 2 0 3)
    | 0x48 | 0x4A | 0x4C | 0x4D => !hasT1s v (pf c 2 0 1)
    | 0x18 => (halves c 3 (pf c 2 0 8)).any (nodeAbsent v)
    | 0x11 => (vatAddrs c.payload).any (absentAt v)
    | 0x15 => c.payload.any (fun a => absentAt v a.toNat)
    | 0x7B => !blockPresent v (pf c 2 0 5) && decide (pf c 2 0 5 ≤ 16)
    | 0x60 => cOpt c == 0 &&
        ((beginDescs c).any (fun d => decide ((descOf d.1 d.2).limit ≠ 0) && absentAt v d.1.toNat) ||
         (beginNodes c).any (nodeAbsent v))
    | _ => false

/-! ### Check 6: parameters -/

/-- A non-empty descriptor lies wholly inside one region of R415, with rights that the region allows. -/
def descOk (w0 w1 : Word) : Bool :=
  let d := descOf w0 w1
  let inside := fun (lo size : Nat) => decide (lo ≤ d.base) && decide (d.base + d.limit ≤ lo + size)
  bits w1 28 4 == 0 &&
  (d.limit == 0 ||
   (d.base % 4 == 0 && !d.x &&
    ((!d.io && inside 0x20048000 0x8000) || (!d.io && !d.w && (inside 0 0x10000 || inside 0x10000000 0x100000)) ||
     (d.io && (inside 0x50000000 0x10000 ||
       (List.range 17).any (fun b => b != 12 && inside (0x40000000 + 0x10000 * b) 0x10000))))))

/-- BEGIN of APPLET_LOAD (R414, R415). -/
def beginOk (c : HostCmd) : Bool :=
  let code := pf c 3 0 13
  let entry := pf c 3 16 13
  let data := pf c 4 0 14
  let spill := pf c 4 16 14
  let n := pf c 13 0 5
  pl c == 20 && onlyBits c 2 7 && onlyBits c 3 0x1FFF1FFF && onlyBits c 4 0x3FFF3FFF && onlyBits c 13 0x71F &&
  code % 4 == 0 && decide (4 ≤ code) && decide (code ≤ 4096) && entry % 4 == 0 && decide (entry < code) &&
  data % 4 == 0 && decide (data ≤ 8192) && spill % 64 == 0 && decide (data + spill ≤ 8192) &&
  (beginDescs c).all (fun d => descOk d.1 d.2) && decide (n ≤ 16) && padOk c 14 n &&
  (beginNodes c).all (fun id => isUnit id || nodeKind id == some .cask)

/-- Size and alignment of the start address of a PEEK or POKE (R16, R149). -/
def peekOk (op : Nat) (c : HostCmd) : Bool :=
  let a := (pw c 2).toNat
  let n := pf c 3 0 5
  let sz := pf c 3 8 2
  onlyBits c 3 0x31F && decide (1 ≤ n) && decide (n ≤ 16) && sz != 3 &&
  (if inPeriph a || inCop a then sz == 0 && a % 4 == 0 else a % sizeBytes (2 - sz) == 0) &&
  pl c == (if op = 0x7E then 2 else 2 + n)

/-- LOADSW commands (R176, R178, R182, R183, R202). -/
def loadParamOk (s : State) (op : Nat) (c : HostCmd) : Bool :=
  let us := reachLive s c.node
  match op with
  | 0x20 => pl c == 1 && onlyBits c 2 0x00FFFF01
  | 0x21 =>
      let f := pf c 2 16 13
      pl c == 1 && onlyBits c 2 0x1FFF0FFF && (f == 0 || (decide (50 ≤ f) && decide (f ≤ 5000))) &&
      (decide (f ≤ 1000) || !us.any (fun u => nodeKind u == some .load && classH (u - 0x0100)))
  | 0x22 => pl c == 1 && onlyBits c 2 0x1FF
  | 0x23 =>
      let w := pf c 2 0 20
      let n := pf c 2 24 8
      let g := pf c 3 0 20
      let least := us.foldl (fun a u => max a (minOnUs (s.slew (u - 0x0100)))) 0
      pl c == 2 && onlyBits c 2 0xFF0FFFFF && onlyBits c 3 0x800FFFFF && decide (1 ≤ n) &&
      decide (1 ≤ w) && decide (w ≤ 1000000) && decide (least ≤ 10 * w) &&
      (n == 1 || (decide (1 ≤ g) && decide (g ≤ 1000000) && decide (least ≤ 10 * g)))
  | _ => pl c == 1 && onlyBits c 2 3 && pf c 2 0 2 != 0

/-- Valve, input and field commands, and READ_DIAG (R231, R258-R260, R284, R286, R156). -/
def ioParamOk (op : Nat) (c : HostCmd) : Bool :=
  match op with
  | 0x28 => pl c == 1 && onlyBits c 2 0xFFFF
  | 0x29 =>
      let o := pf c 2 16 12
      pl c == 1 && onlyBits c 2 0x0FFFFFFF && (o == 0 || (decide (250 ≤ o) && decide (o ≤ 4000)))
  | 0x31 => pl c == 0 || (pl c == 1 && onlyBits c 2 0xFFFF && (isGroup c.node || pf c 2 0 16 == 0))
  | 0x33 => pl c == 3 && onlyBits c 2 0xFFFF && pf c 2 0 16 != 0
  | 0x38 => pl c == 1 && onlyBits c 2 0xFFFFFF03 && (!pb c 2 1 || pf c 2 8 24 != 0)
  | _ => pl c == 0

/-- CAN and LIN commands (R305-R309, R316-R319). -/
def netParamOk (op : Nat) (c : HostCmd) : Bool :=
  match op with
  | 0x40 =>
      let len := pf c 3 0 7
      onlyBits c 3 0x00FF01FF && pl c == 2 + (len + 3) / 4 &&
      (decide (len ≤ 8) || (pb c 3 7 && [12, 16, 20, 24, 32, 48, 64].contains len)) && (!pb c 3 8 || pb c 3 7)
  | 0x41 =>
      let n := pf c 2 16 8
      pl c == 1 && onlyBits c 2 0x00FF7F0F && pf c 2 2 2 != 3 && decide (1 ≤ n) &&
      (if pf c 2 2 2 = 0 then decide (pf c 2 8 7 + n ≤ 128) else decide (n ≤ 32))
  | 0x42 => pl c == 1 && onlyBits c 2 0xF03 && decide (pf c 2 8 4 ≤ 3)
  | 0x43 =>
      pl c == 3 && onlyBits c 2 0x000F3F07 && decide (pf c 2 0 3 < 6) && decide (pf c 2 8 6 ≤ 0x3D) &&
      decide (1 ≤ pf c 2 16 4) && decide (pf c 2 16 4 ≤ 8)
  | 0x44 =>
      let n := pf c 2 16 7
      pl c == 1 && onlyBits c 2 0x007F3F07 && decide (pf c 2 0 3 < 6) && decide (1 ≤ n) &&
      decide (n ≤ 64) && decide (pf c 2 8 6 + n ≤ 64)
  | 0x45 => pl c == 1 && onlyBits c 2 0x001F1307 && decide (pf c 2 0 3 < 6)
  | _ => pl c == 1 && onlyBits c 2 0xF07 && decide (pf c 2 0 3 < 6) && decide (pf c 2 8 4 ≤ 1)

/-- T1S and TIME commands (R340-R345). -/
def timeParamOk (op : Nat) (c : HostCmd) : Bool :=
  match op with
  | 0x48 =>
      let len := pf c 2 16 11
      onlyBits c 2 0x07FFFF01 && decide (14 ≤ len) && decide (len ≤ 1016) && pl c == 1 + (len + 3) / 4
  | 0x49 => pl c == 1 && onlyBits c 2 0xF && pf c 2 0 4 != 0
  | 0x4A => pl c == 1 && onlyBits c 2 0xF0001 && decide (1 ≤ pf c 2 16 4) && decide (pf c 2 16 4 ≤ 8)
  | 0x4B =>
      let r := (pw c 3).toInt
      pl c == 4 && onlyBits c 2 0x303 && pf c 2 0 2 != 0 &&
      (pf c 2 8 2 == 1 || pf c 2 8 2 == 2 || (decide (-549755813 ≤ r) && decide (r ≤ 549755813)))
  | 0x4C => pl c == 1 && onlyBits c 2 0xFF0001 && decide (1 ≤ pf c 2 16 8) && decide (pf c 2 16 8 ≤ 16)
  | _ => pl c == 1 && onlyBits c 2 0xF01 && decide (pf c 2 8 4 ≤ 2)

/-- Every digit of a BCD word is at most 9. -/
def bcdOk (w : Word) : Bool := (List.range 8).all (fun i => decide (bits w (4 * i) 4 ≤ 9))

/-- Network sleep and access commands (R363, R389). -/
def accParamOk (op : Nat) (c : HostCmd) : Bool :=
  match op with
  | 0x58 => pl c == 1 && onlyBits c 2 0xFFFF
  | 0x59 => pl c == 1 && onlyBits c 2 3 && pf c 2 0 2 != 0
  | 0x5A => pl c == 11 && onlyBits c 2 7
  | 0x5B => pl c == 2 && bcdOk (pw c 2) && bcdOk (pw c 3) && (!optBit c 1 || (pw c 2 == 0 && pw c 3 == 0))
  | 0x5C => pl c == 1 && onlyBits c 2 7
  | 0x5D => pl c == 1 && onlyBits c 2 1
  | _ => pl c == 0

/-- Applet commands (R414, R417, R419, R420, R423, R426). -/
def appletParamOk (op : Nat) (c : HostCmd) : Bool :=
  match op with
  | 0x60 =>
      match cOpt c with
      | 0 => beginOk c
      | 1 => decide (2 ≤ pl c) && decide (pl c ≤ 253) && onlyBits c 2 0xFFFF0007 && pf c 2 16 16 % 4 == 0
      | _ => pl c == 2 && onlyBits c 2 7
  | 0x61 => pl c == 2 && onlyBits c 2 0xFF07 && onlyBits c 3 0x1FFFFF &&
      decide (100 ≤ pf c 3 0 21) && decide (pf c 3 0 21 ≤ 1427800)
  | 0x62 => pl c == 1 && onlyBits c 2 0xFF
  | 0x64 => pl c == 1 && onlyBits c 2 0x107
  | _ => pl c == 1 && onlyBits c 2 7

/-- Fault commands (R443). Sources 0x5E and 0x5F are reserved. -/
def faultParamOk (op : Nat) (c : HostCmd) : Bool :=
  match op with
  | 0x71 => pl c == 1 && onlyBits c 2 0xFFFF && decide (pf c 2 0 8 ≤ 0x5F) && decide (1 ≤ pf c 2 8 8) &&
      decide (pf c 2 8 8 ≤ 50) && decide (pf c 2 0 8 + pf c 2 8 8 ≤ 0x60)
  | 0x72 => pl c == 4 && onlyBits c 4 0x3FFFFFFF && onlyBits c 5 3
  | 0x74 => pl c == 1 && onlyBits c 2 0xFFFF && decide (pf c 2 0 8 < 0x5E) && decide (1 ≤ pf c 2 8 8)
  | _ => pl c == 0

/-- Vat and cask commands (R151, R162). -/
def vatParamOk (op : Nat) (c : HostCmd) : Bool :=
  match op with
  | 0x11 =>
      pl c % 3 == 0 && decide (3 ≤ pl c) && decide (pl c ≤ 255) &&
      (vatItems c.payload).all (fun it => it.1 % 4 == 0 &&
        match stagedAt it.1 with | some (r, _) => it.2.1 &&& stMask r == it.2.1 | none => false)
  | 0x15 => decide (1 ≤ pl c) && decide (pl c ≤ 250) && c.payload.all (fun a => (stagedAt a.toNat).isSome)
  | 0x16 | 0x17 => pl c == 1 && decide ((pw c 2).toNat ≤ 3)
  | 0x18 =>
      let n := pf c 2 0 8
      let ms := halves c 3 n
      onlyBits c 2 0xFF && decide (n ≤ 140) && pl c == 1 + (n + 1) / 2 && padOk c 3 n &&
      ms.all (fun m => (isUnit m || nodeKind m == some .cask) && m != c.node) && decide ms.Nodup
  | 0x1A => pl c == 1
  | _ => pl c == 0

/-- Check 6 of R125: flags and payload as the opcode's chapter gives them. -/
def paramsOk (s : State) (op : Nat) (c : HostCmd) : Bool :=
  flagsOk op c &&
  (if op = 0x01 then decide (pl c ≤ 254)
   else if op < 0x10 then pl c == 0
   else if op < 0x20 then vatParamOk op c
   else if op < 0x28 then loadParamOk s op c
   else if op < 0x40 then ioParamOk op c
   else if op < 0x48 then netParamOk op c
   else if op < 0x50 then timeParamOk op c
   else if op < 0x60 then accParamOk op c
   else if op < 0x70 then appletParamOk op c
   else if op < 0x78 then faultParamOk op c
   else if op = 0x7B then pl c == 1 && onlyBits c 2 0x1F && resettable (pf c 2 0 5)
   else if op = 0x7E ∨ op = 0x7F then peekOk op c
   else pl c == 0)

/-! ### Charges (R113) -/

/-- The largest count that a command can reach. -/
def chargeOf (op : Nat) (c : HostCmd) : Nat :=
  if op = 0x13 ∨ nodeKind c.node = some .cask ∨ (c.node = 0 ∧ rootReaches op) then 140
  else match op with
    | 0x7E | 0x7F => 8 * pf c 3 0 5
    | 0x48 => 8
    | 0x41 => 8 * (if pf c 2 2 2 = 0 then min 84 (pf c 2 16 8) else pf c 2 16 8)
    | 0x44 => 8 * min 63 (pf c 2 16 7)
    | 0x4C => 8 * min 14 (pf c 2 16 8)
    | 0x4A => 8 * pf c 2 16 4
    | 0x58 => 8 * 16
    | _ => 1

/-- Checks 4 to 6 of R125 in their order: the refusing status, if any. In the fuse-failed state only
PING, GET_STATUS and GET_FEATURES go on after the opcode check, and nothing is ABSENT (R32). -/
def State.arrivalStatus (s : State) (op : Nat) (c : HostCmd) : Option Nat :=
  if !opcodeDefined op then some 0x12
  else if s.pwr.fuseFailed && !(op == 1 || op == 2 || op == 3) then some 0x21
  else if !s.pwr.fuseFailed && (s.opcodeAbsent op || payloadAbsent s op c) then some 0x23
  else match s.targetCheck op c with
    | some st => some st
    | none => if paramsOk s op c then none else some 0x14

end Sys2Proof.Machine
end

