-- ==== Sys2Proof/Machine/Vat.lean ====
section
/-! DEFINITION. The general commands (R147), cask commands (R150, R151), the vat: its states (R161),
commands (R162), checks (R164, R165), bottling (R166), lease (R167) and stored images (R168). -/

namespace Sys2Proof.Machine

/-! ### General commands (R147) -/

/-- HOLD_STAT and LOSS_STAT fields, mode, flags of GET_STATUS words 3-8. -/
def State.statusWords (s : State) : List Word :=
  [w32 (bits s.pwrStat 0 2 + 4 * b2n s.pwr.fuseFailed + 8 * b2n s.clk.failOver + place (vatCode s.vat.st) 4 3 +
      place s.pwr.holdState 7 2 + place s.lossNow 9 2 + place (b2n s.pwr.limpActive) 11 1),
   w32 (1 + place s.pwr.patchLevel 16 16),
   w32 (place s.pwr.patchApplied 0 16 + place s.pwr.patchRejected 16 16),
   w32 s.vat.liveGen, w32 (place s.pwr.rstCause 0 7), s.pwr.wakeRec]

def runNop (_ : Ctx) (s : State) : State × Out := (s, outWords [])
def runPing (x : Ctx) (s : State) : State × Out := (s, outWords x.cmd.payload)
def runGetStatus (_ : Ctx) (s : State) : State × Out := (s, outWords s.statusWords)
def runGetFeatures (_ : Ctx) (s : State) : State × Out :=
  (s, outWords ((List.range 9).map (fun i => (s.readFeat (4 * i)).getD 0)))

/-- CANCEL: every deferred command to the node, or to any node for the root, leaves the store and is
answered NOT_PERMITTED with CANCELLED (R147). -/
def runCancel (x : Ctx) (s : State) : State × Out :=
  let hit := fun (d : Deferred) => x.cmd.node == 0 || d.cmd.cmd.node == x.cmd.node
  let gone := s.eng.deferred.filter hit
  let s1 := { s with eng := { s.eng with
    deferred := s.eng.deferred.filter (fun d => !hit d)
    cancelled := satAdd s.eng.cancelled gone.length 255 } }
  let s2 := gone.foldl (fun t d => t.respond d.cmd.op d.cmd.cmd { outStatus 0x21 with cancelled := true } true) s1
  (s2, outWords [w32 gone.length])

/-! ### The staged image -/

/-- The vat may be changed: OPEN or CHECKED (R161). -/
def vatOpenNow (v : VatState) : Bool := match v with | .open | .checked => true | _ => false
/-- The lease restarts at every vat or cask command that executes (R167). -/
def State.restartLease (s : State) : State := { s with vat := { s.vat with leaseFrom := s.now } }
/-- The vat has been changed: OPEN, any check result is void (R161). -/
def State.vatChanged (s : State) (img : Image) : State := { s with vat := { s.vat with st := .open, img := img } }
/-- Staged starts and grants of the vat, as an image stores them (R419, R423). -/
def State.stagedStarts (s : State) : List (Nat × Nat × Nat × Nat) :=
  (List.range 8).filterMap (fun i => (s.slot i).staged.map (fun a => (i, a.ovrStop, a.budget, a.gen)))
def State.stagedGrants (s : State) : List (Nat × Nat) :=
  (List.range 8).flatMap (fun i => (s.slot i).stagedGrants.map (fun g => (i, g)))
/-- Staged starts and grants taken from an image. -/
def State.restage (s : State) (img : Image) : State :=
  s.forEach (List.range 8) (fun t i => t.updSlot i (fun a => { a with
    staged := (img.starts.find? (fun e => e.1 == i)).map (fun e => ⟨e.2.1, e.2.2.1, e.2.2.2⟩)
    stagedGrants := (img.grants.filter (fun e => e.1 == i)).map (·.2) }))
/-- VAT_OPEN: a copy of the live configuration, or the Reset values and no casks (R162). -/
def State.vatFill (s : State) (defaults : Bool) : State :=
  let s1 := s.forEach (List.range 8) (fun t i => t.updSlot i (fun a =>
    if defaults then { a with staged := none, stagedGrants := [] }
    else { a with staged := a.live, stagedGrants := a.grants }))
  { s1 with vat := { s1.vat with st := .open, img := if defaults then default else s1.live, leaseFrom := s1.now } }

/-! ### Checks (R164) -/

/-- Casks that are members of a cask. -/
def caskSubs (t : List (Nat × List Nat)) (id : Nat) : List Nat :=
  ((caskMembers t id).getD []).filter (fun m => !isUnit m)
/-- Defined casks reached from a list of casks, itself included, after `fuel` levels. -/
def caskClose (t : List (Nat × List Nat)) : Nat → List Nat → List Nat
  | 0, l => l
  | fuel + 1, l =>
      let next := l.foldl (fun a id => (caskSubs t id).foldl (fun b m =>
        if (caskMembers t m).isSome then insertAsc m b else b) a) l
      if next.length = l.length then l else caskClose t fuel next
/-- Defined casks that a cask reaches through its members. -/
def caskReach (t : List (Nat × List Nat)) (id : Nat) : List Nat :=
  caskClose t t.length ((caskSubs t id).foldl (fun b m => if (caskMembers t m).isSome then insertAsc m b else b) [])
/-- Depth of a cask whose tree has no cycle (R150). -/
def caskDepth (t : List (Nat × List Nat)) : Nat → Nat → Nat
  | 0, _ => 1
  | fuel + 1, id =>
      1 + ((caskSubs t id).filter (fun m => (caskMembers t m).isSome)).foldl (fun a m => max a (caskDepth t fuel m)) 0

/-- 0x01: casks named as members, or granted, that the staged table does not define. Each pair of a cask and a missing
member is one failure (DESIGN CHOICE, log 101). -/
def memberFails (t : List (Nat × List Nat)) (grants : List Nat) : List VatFail :=
  (t.flatMap (fun c => ((caskSubs t c.1).filter (fun m => (caskMembers t m).isNone)).map (fun m => ⟨1, c.1, m⟩))) ++
  ((grants.filter (fun g => !isUnit g && (caskMembers t g).isNone)).map (fun g => ⟨1, g, g⟩))
/-- 0x02 and 0x03: depth, and one failure per group of casks that all reach each other. -/
def shapeFails (t : List (Nat × List Nat)) : List VatFail :=
  let rs := t.map (fun c => (c.1, caskReach t c.1))
  let onCycle := fun id => ((kvGet rs id).getD []).contains id
  let deep := rs.filterMap (fun r =>
    if onCycle r.1 || r.2.any onCycle then none
    else
      let d := caskDepth t t.length r.1
      if 9 ≤ d then some (⟨2, r.1, d⟩ : VatFail) else none)
  let groups := rs.filterMap (fun r =>
    if onCycle r.1 then
      let g := r.2.filter (fun j => ((kvGet rs j).getD []).contains r.1)
      if g.head? = some r.1 then some (⟨3, r.1, g.length⟩ : VatFail) else none
    else none)
  deep ++ groups

/-- Bit timing of CAN_NBT or CAN_DBT in CAN cycles, with TSEG2 and SJW in quanta (R293). -/
def nbtLen (w : Word) : Nat := (bits w 0 5 + 1) * (bits w 8 8 + bits w 16 7 + 3)
def dbtLen (w : Word) : Nat := (bits w 0 5 + 1) * (bits w 8 5 + bits w 16 4 + 3)
/-- Lengths of a nominal bit and of a data-phase bit of controller k in CAN cycles of 12.5 ns (R293). -/
def State.canBits (s : State) (k : Nat) : Nat × Nat :=
  (nbtLen (stActs s.svc (canBase k + 4)), dbtLen (stActs s.svc (canBase k + 8)))
/-- CAN timing registers of controller k out of range (R293). -/
def canTimingFails (l : List (Nat × Word)) (k : Nat) : List Nat :=
  let n := stRead l (canBase k + 4)
  let d := stRead l (canBase k + 8)
  (if nbtLen n < 80 ∨ 1600 < nbtLen n ∨ bits n 16 7 < bits n 24 7 then [canBase k + 4] else []) ++
  (if dbtLen d < 16 ∨ nbtLen n < dbtLen d ∨ bits d 16 4 < bits d 24 4 then [canBase k + 8] else [])
/-- Enabled objects of controller k that repeat the identifier of a lower-numbered one (R297). -/
def canObjFails (l : List (Nat × Word)) (k : Nat) : List Nat :=
  let os := l.filter (fun p => decide (canBase k + 0x200 ≤ p.1) && decide (p.1 < canBase k + 0x400) && bit p.2 31)
  (os.filter (fun p => os.any (fun q => decide (q.1 < p.1) && bits q.2 0 30 == bits p.2 0 30))).map (·.1)
/-- LIN slots of a table in use whose TIME or ID is out of range (R315). -/
def linSlotFails (l : List (Nat × Word)) (c t : Nat) : List Nat :=
  let slotAddr := fun (i : Nat) => linBase c + 0x200 + 0x80 * t + 4 * i
  let time := fun i => bits (stRead l (slotAddr i)) 8 8
  let used := (List.range 32).takeWhile (fun i => time i != 0)
  (used.filter (fun i =>
    let cfg := stActs l (linBase c + 0x100 + 4 * bits (stRead l (slotAddr i)) 0 6)
    bits cfg 0 2 == 0 || !slotFits (time i) (bits cfg 2 4) (bits (stActs l (linBase c)) 8 16))).map slotAddr
/-- Bindings of TB1-TB3 to an absent port, or to a port and domain of a lower-numbered base (R335). -/
def tbFails (v : Nat) (l : List (Nat × Word)) : List Nat :=
  let w := fun i => stRead l (tbCfg i)
  ([1, 2, 3].filter (fun i => bits (w i) 0 2 != 0 &&
    (!hasT1s v (bits (w i) 0 2 - 1) ||
     ((List.range i).drop 1).any (fun j => bits (w j) 0 2 == bits (w i) 0 2 && bits (w j) 8 7 == bits (w i) 8 7)))).map tbCfg
/-- NETMGR registers out of range (R364). Its CTRL and ADDR are judged while its EN is staged 1 (log 12). -/
def nmFails (v : Nat) (l : List (Nat × Word)) : List Nat :=
  let w := stRead l nmCfg
  let t := stRead l nmTime
  let k := bits w 4 2
  let ring := bits w 16 6 * 32 + bits w 8 5
  let bound := l.any (fun p => decide (canBase k + 0x200 ≤ p.1) && decide (p.1 < canBase k + 0x400) && bit p.2 31 &&
    !bit p.2 29 && bits p.2 0 11 == ring)
  (if bit w 0 && (!hasCan v k || !bit (stRead l (canBase k)) 0 || bound) then [nmCfg] else []) ++
  (if bits t 8 8 < 2 * bits t 0 8 then [nmTime] else [])
/-- 0x05: registers with a field out of its stated range, by address. -/
def rangeAddrs (v : Nat) (l : List (Nat × Word)) : List Nat :=
  let own := (l.filter (fun p => match stagedAt p.1 with | some (r, i) => stOutOfRange r i p.2 | none => false)).map (·.1)
  let cans := (List.range 4).filter (hasCan v)
  let lins := (List.range 6).filter (hasLin v)
  (own ++ cans.flatMap (canTimingFails l) ++ cans.flatMap (canObjFails l) ++
    lins.flatMap (fun c => linSlotFails l c 0 ++ linSlotFails l c 1) ++ tbFails v l ++ nmFails v l).foldl
      (fun a x => insertAsc x a) []
def rangeFails (v : Nat) (l : List (Nat × Word)) : List VatFail :=
  (rangeAddrs v l).map (fun a => ⟨5, winIndex a, a⟩)

/-- 0x06: pairs of banks that may peak in the same frame (R238). This check and those of 0x07 and 0x09 take a staged field
that is out of range as its Reset value, as which it would act (R248; DEDUCED, log 100). -/
def boostFails (v : Nat) (l : List (Nat × Word)) : List VatFail :=
  let peak := fun n => bits (stActs l (vlCfg n)) 0 8 * 50
  let top := fun b => max (peak (2 * b)) (peak (2 * b + 1))
  let w := stActs l 0x40040000
  if bit w 1 then []
  else ([(0, 2), (1, 2), (0, 3), (1, 3)].filter (fun p => hasBank v p.1 && hasBank v p.2)).filterMap (fun p =>
    if bits w 24 8 * 100 < top p.1 + top p.2 then some ⟨6, 0x0500 + p.2, top p.1 + top p.2⟩ else none)

/-- 0x07: pin-driven channels with an active generator or a pin too fast for their class (R185). -/
def routeFails (v : Nat) (l : List (Nat × Word)) : List VatFail :=
  ((List.range 48).filter (hasLoad v)).filterMap (fun n =>
    let w := stActs l (lcBase n)
    let p := bits w 2 3
    if bit w 1 && (bit w 0 || decide ((if classH n then 1000 else 5000) < bits (stActs l (pwmCfg p)) 0 13))
    then some ⟨7, 0x0100 + n, p⟩ else none)

/-- 0x09: staged budgets above the applet cycle limit of the staged TICK_SEL (R114). -/
def budgetFails (l : List (Nat × Word)) (budgets : List Nat) : List VatFail :=
  let sum := budgets.foldl (· + ·) 0
  if tickCycles (bits (stActs l 0x40010000) 0 3) < sum then [⟨9, 0, sum⟩] else []

/-- 0x08: clusters above the staged ceiling in the steady state (R212). -/
def State.thermFails (s : State) (l : List (Nat × Word)) : List VatFail :=
  (s.thermalFails l).map (fun f => ⟨8, f.1, f.2⟩)

/-- Every failure of the vat as a whole. -/
def State.vatFails (s : State) : List VatFail :=
  let l := s.vat.img.regs
  let t := s.vat.img.casks
  memberFails t (s.stagedGrants.map (·.2)) ++ shapeFails t ++ rangeFails s.var l ++ boostFails s.var l ++
  routeFails s.var l ++ s.thermFails l ++ budgetFails l (s.stagedStarts.map (fun e => e.2.2.1))

/-- Words 3 and 4 of a failed check. -/
def failWords (f : VatFail) (count : Nat) : List Word :=
  [w32 (place f.reason 0 8 + place (min 255 count) 8 8 + place f.where_ 16 16), w32 f.detail]
/-- The failure with the lowest reason, then the lowest WHERE, first among equals. -/
def worstFail (l : List VatFail) : VatFail :=
  l.foldl (fun a b => if b.reason < a.reason ∨ (b.reason = a.reason ∧ b.where_ < a.where_) then b else a) (l.head?.getD default)
/-- FRAME_VAT_RESULT takes a failure. -/
def State.noteFail (s : State) (f : VatFail) (count : Nat) : State :=
  { s with vat := { s.vat with resReason := f.reason, resFails := min 255 count, resWhere := f.where_ } }
/-- A refusal with VAT_INCONSISTENT. -/
def State.vatRefuse (s : State) (f : VatFail) : State × Out :=
  (s.noteFail f 1, { outWords (failWords f 1) with status := 0x20 })

/-! ### Vat commands (R162) -/

def runVatOpen (x : Ctx) (s : State) : State × Out :=
  if s.vat.st == .closed && !s.flt.declared.testBit 3 then (s.vatFill (optBit x.cmd 0), outWords [])
  else (s.restartLease, outStatus 0x21)

/-- One item: (old AND NOT mask) OR (value AND mask), as the register stores it. -/
def applyItem (v : Nat) (l : List (Nat × Word)) (it : Nat × Word × Word) : List (Nat × Word) :=
  stWrite l it.1 (storedValue v it.1 ((stRead l it.1 &&& ~~~it.2.1) ||| (it.2.2 &&& it.2.1)))
def runVatWrite (x : Ctx) (s : State) : State × Out :=
  let s1 := s.restartLease
  if vatOpenNow s.vat.st then
    (s1.vatChanged { s1.vat.img with regs := (vatItems x.cmd.payload).foldl (applyItem s1.var) s1.vat.img.regs }, outWords [])
  else (s1, outStatus 0x21)

/-- VAT_CHECK starts: CHECKING (R165). -/
def runVatCheck (x : Ctx) (s : State) : State × Option Out :=
  let s1 := s.restartLease
  if !vatOpenNow s.vat.st then (s1, some (outStatus 0x21))
  else if !s.eng.outstRoom then (s1, some (outStatus 0x30))
  else (({ s1 with vat := { s1.vat with st := .checking } }).addOutst x.op x.cmd .vatCheck, none)

/-- The check completes: CHECKED, or OPEN with the failure (R161, R164). -/
def State.vatChecked (s : State) : State :=
  let fs := s.vatFails
  if fs.isEmpty then
    { s.answer waitsVatCheck 0 [] with vat := { s.vat with st := .checked, leaseFrom := s.now } }
  else
    let f := worstFail fs
    let s1 := { s.answer waitsVatCheck 0x20 (failWords f fs.length) with
                vat := { s.vat with st := .open, leaseFrom := s.now } }
    s1.noteFail f fs.length

/-- VAT_BOTTLE at its preparation racking (R166). -/
def runVatBottle (x : Ctx) (s : State) : State × Option Out :=
  let s1 := s.restartLease
  match s.vat.st with
  | .checked =>
      if !s.eng.outstRoom then (s1, some (outStatus 0x30))
      else (({ s1 with vat := { s1.vat with st := .bottling } }).addOutst x.op x.cmd .vatBottle, none)
  | .open => let r := s1.vatRefuse ⟨0x0A, 0, 0⟩; (r.1, some r.2)
  | _ => (s1, some (outStatus 0x21))

def runVatDiscard (_ : Ctx) (s : State) : State × Out :=
  if vatOpenNow s.vat.st then ({ s.unstage with vat := closeVat s.vat 2 }, outWords [])
  else (s.restartLease, outStatus 0x21)

def runVatRead (x : Ctx) (s : State) : State × Out :=
  let live := optBit x.cmd 0
  let l := if live then s.live.regs else s.vat.img.regs
  (s.restartLease,
   if !live && s.vat.st == .closed then outStatus 0x21
   else outWords (x.cmd.payload.map (fun a => stRead l a.toNat)))

/-- VAT_STORE starts the flash write; the slot has no good CRC until it completes (R168). -/
def runVatStore (x : Ctx) (s : State) : State × Option Out :=
  let s1 := s.restartLease
  let i := pf x.cmd 2 0 2
  if s.vat.st != .checked then (s1, some (outStatus 0x21))
  else if !s.eng.outstRoom then (s1, some (outStatus 0x30))
  else
    let img := { s1.vat.img with starts := s1.stagedStarts, grants := s1.stagedGrants }
    (({ s1 with vat := { s1.vat with
        writing := s1.vat.writing ++ [(i, img)]
        stored := vput s1.vat.stored i (some (false, s1.var, img)) } }).addOutst x.op x.cmd (.vatStore i), none)

/-- The ticket of the oldest unanswered command that waits as p says. -/
def State.ticketOf (s : State) (p : WaitFor → Bool) : Option Nat :=
  (s.eng.outst.find? (fun o => p o.wait && o.answer.isNone)).map (·.ticket)
/-- Answer the oldest command that waits as p says. -/
def State.answerFirst (s : State) (p : WaitFor → Bool) (status : Nat) (payload : List Word) : State :=
  match s.ticketOf p with
  | some t => s.answer (fun o => o.ticket == t) status payload
  | none => s

/-- The oldest image write ends: good, or failed with no spare page (R168, R454). A slot that a later VAT_STORE is
still being written to is not good. -/
def State.vatStored (s : State) (o : FlashOut) : State :=
  match s.vat.writing with
  | [] => s
  | (i, img) :: r =>
      let w := s.flashWrote o
      let s1 := { w.1 with vat := { w.1.vat with
        writing := r, stored := vput w.1.vat.stored i (some (w.2 && !r.any (fun q => q.1 == i), s.var, img)) } }
      s1.answerFirst (fun x => x == .vatStore i) (if w.2 then 0 else 0x21) []

def runVatLoad (x : Ctx) (s : State) : State × Out :=
  let s1 := s.restartLease
  let i := pf x.cmd 2 0 2
  if !vatOpenNow s.vat.st then (s1, outStatus 0x21)
  else match vget s.vat.stored i with
    | some (true, v, img) =>
        if v = s.var then
          ((s1.restage img).vatChanged { img with starts := [], grants := [] }, outWords [])
        else s1.vatRefuse ⟨0x0C, i, v⟩
    | _ => s1.vatRefuse ⟨0x0B, i, 0⟩

/-- The vat lease runs out (R161, R167). -/
def State.vatExpire (s : State) : State :=
  if vatLeased s.vat.st && decide (s.vat.leaseFrom + s.vatLeaseNs ≤ s.now) then
    { s.unstage with vat := closeVat s.vat 3 }
  else s

/-! ### Cask commands (R151) -/

def runCaskDefine (x : Ctx) (s : State) : State × Out :=
  let s1 := s.restartLease
  let id := x.cmd.node
  let t := kvSet s.vat.img.casks id (halves x.cmd 3 (pf x.cmd 2 0 8))
  if !vatOpenNow s.vat.st then (s1, outStatus 0x21)
  else if 8192 < caskEntries t then s1.vatRefuse ⟨4, id, caskEntries t⟩
  else (s1.vatChanged { s1.vat.img with casks := t }, outWords [])

def runCaskDelete (x : Ctx) (s : State) : State × Out :=
  let s1 := s.restartLease
  if !vatOpenNow s.vat.st then (s1, outStatus 0x21)
  else if (caskMembers s.vat.img.casks x.cmd.node).isNone then (s1, outStatus 0x13)
  else (s1.vatChanged { s1.vat.img with casks := kvDel s1.vat.img.casks x.cmd.node }, outWords [])

def runCaskList (x : Ctx) (s : State) : State × Out :=
  let s1 := s.restartLease
  let staged := optBit x.cmd 0
  let t := if staged then s.vat.img.casks else s.live.casks
  let ids : Option (List Nat) := if x.cmd.node = 0 then some (t.map (·.1)) else caskMembers t x.cmd.node
  if staged && s.vat.st == .closed then (s1, outStatus 0x21)
  else match ids with
    | none => (s1, outStatus 0x13)
    | some l => (s1, outWords (w32 l.length :: pairUp ((l.drop (pw x.cmd 2).toNat).take 500)))

/-! ### Bottling (R166) -/

/-- A staged start takes effect (R419): a slot that is not started begins with its code copied, its
private area zeroed, its latches and counts cleared. -/
def State.startSlot (s : State) (i : Nat) : State :=
  let a := s.slot i
  match a.staged with
  | none => if a.st == .started then s.stopApplet i 4 false else s
  | some st =>
      if a.st == .started then s.updSlot i (fun b => { b with live := some st, grants := b.stagedGrants })
      else
        match a.store with
        | some (_, code) =>
            if a.st == .ready && a.gen == st.gen then
              (((s.writeWords (0x20040000 + 0x1000 * i) code).zeroRange (0x20050000 + 0x2000 * i) 0x2000).updSlot i (fun b => { b with
                st := .started, live := some st, grants := b.stagedGrants, fresh := true
                overRun := 0, lastCycles := 0, maxCycles := 0, overruns := 0, cuts := 0, lostCnt := 0
                busyCnt := 0, results := [] })).forEach (List.range 64) (fun t n => t.updPort n (fun p => { p with appLatch := p.appLatch &&& (255 - 2 ^ i) }))
            else (s.updSlot i (fun b => { b with stopCause := 7 })).faults [plainEvent 0x4F i]
        | none => (s.updSlot i (fun b => { b with stopCause := 7 })).faults [plainEvent 0x4F i]

/-- At every load of the live image RETRY_LEFT becomes RETRY_MAX (R196) and the FREQ set-point FREQ_DEF
(R178). -/
def State.loadSetPoints (s : State) (l : List (Nat × Word)) : State :=
  s.forEach s.loads (fun t n => t.updLoad n (fun ch =>
    let f := bits (stActs l (lcBase n)) 8 13
    let r := bits (stActs l (lcProt n)) 16 4
    { ch with sh := { ch.sh with freq := f }, pend := ch.pend.map (fun p => { p with freq := f })
              genNew := ch.genNew || ch.sh.freq != f, retryLeft := r }))

end Sys2Proof.Machine
end

