-- ==== Sys2Proof/Machine/Applet.lean ====
section
/-! DEFINITION. Applets: loading (R413-R418), starting and stopping (R419-R421), budgets (R422),
precedence (R423), service calls (R424, R425), status (R426), and the runs of a frame (R403, R406, R112
step 5). -/

namespace Sys2Proof.Machine

/-! ### Loading (R413-R418) -/

/-- The slot may not be loaded or unloaded: it is started, or staged as started in the vat. -/
def AppSlot.busyStart (a : AppSlot) : Bool := a.st == .started || a.staged.isSome
def codeBase (i : Nat) : Nat := 0x20040000 + 0x1000 * i
def dataBase (i : Nat) : Nat := 0x20050000 + 0x2000 * i
/-- The header of a BEGIN (R414). -/
def headOf (c : HostCmd) : AppHead :=
  { codeSize := pf c 3 0 13, entry := pf c 3 16 13, dataSize := pf c 4 0 14, spillSize := pf c 4 16 14
    segs := tab 4 (fun k => descOf (pw c (5 + 2 * k)) (pw c (6 + 2 * k)))
    caps := pf c 13 8 3, nodes := beginNodes c }
/-- The code area of a slot as words. -/
def State.codeWords (s : State) (i n : Nat) : List Word :=
  (List.range (n / 4)).map (fun j => memWord s.mem.bytes 0 (codeBase i + 4 * j))

def runAppletLoad (x : Ctx) (s : State) : State × Option Out :=
  let c := x.cmd
  let i := pf c 2 0 3
  let a := s.slot i
  if a.busyStart || a.st == .writing then (s, some (outStatus 0x21))
  else match cOpt c with
    | 0 => ((s.zeroRange (codeBase i) 0x1000).updSlot i (fun b => { b with st := .loading, load := some (headOf c) }),
            some (outWords []))
    | 1 =>
        match a.load with
        | none => (s, some (outStatus 0x21))
        | some h =>
            let code := c.payload.drop 1
            if h.codeSize < pf c 2 16 16 + 4 * code.length then (s, some (outStatus 0x14))
            else (s.writeWords (codeBase i + pf c 2 16 16) code, some (outWords []))
    | _ =>
        match a.load with
        | none => (s, some (outStatus 0x21))
        | some h =>
            if crc32 (s.codeWords i h.codeSize) != pw c 3 then (s, some (outStatus 0x14))
            else if !s.eng.outstRoom then (s, some (outStatus 0x30))
            else ((s.updSlot i (fun b => { b with st := .writing })).addOutst x.op c (.appletStore i false), none)

def runAppletUnload (x : Ctx) (s : State) : State × Option Out :=
  let i := pf x.cmd 2 0 3
  if (s.slot i).busyStart || (s.slot i).st == .writing then (s, some (outStatus 0x21))
  else if !s.eng.outstRoom then (s, some (outStatus 0x30))
  else (s.addOutst x.op x.cmd (.appletStore i true), none)

/-- A store write or erasure of the slot ends (R416, R417, R454). -/
def State.storeWritten (s : State) (i : Nat) (o : FlashOut) : State :=
  let which := fun (w : WaitFor) => w == .appletStore i true || w == .appletStore i false
  match s.eng.outst.find? (fun q => which q.wait && q.answer.isNone) with
  | none => s
  | some q =>
      let w := s.flashWrote o
      let unload := q.wait == .appletStore i true
      let code := match (s.slot i).load with | some h => s.codeWords i h.codeSize | none => []
      let s1 := w.1.updSlot i (fun a =>
        if unload then { a with store := none, st := if a.st == .ready then .empty else a.st }
        else match a.load with
          | some h =>
              if w.2 then { a with store := some (h, code), gen := a.gen + 1, load := none, st := .ready }
              else { a with store := none, load := none, st := .empty }
          | none => a)
      s1.answer (fun r => r.ticket == q.ticket) (if w.2 then 0 else 0x21) []

def execAppletStoreWritten (at_ : Nat) (n : Fin 8) (o : FlashOut) (s : State) : Host.Outcome State Fault Refusal :=
  s.done ((s.atPhase at_).storeWritten n o)

/-! ### Starting, stopping and precedence (R419-R423) -/

/-- APPLET_START and APPLET_PRECEDE change the vat as VAT_WRITE does. -/
def State.vatTouched (s : State) : State := s.vatChanged s.vat.img

def runAppletStart (x : Ctx) (s : State) : State × Out :=
  let s1 := s.restartLease
  let i := pf x.cmd 2 0 3
  if vatOpenNow s.vat.st && (s.slot i).st == .ready && !s.flt.declared.testBit 1 then
    ((s1.updSlot i (fun a => { a with staged := some ⟨pf x.cmd 2 8 8, pf x.cmd 3 0 21, a.gen⟩ })).vatTouched, outWords [])
  else (s1, outStatus 0x21)

def runAppletStop (x : Ctx) (s : State) : State × Out :=
  (s.forEach (maskList (pf x.cmd 2 0 8) 8) (fun t i => t.stopApplet i 1 true), outWords [])

def runAppletPrecede (x : Ctx) (s : State) : State × Out :=
  let i := pf x.cmd 2 0 3
  let node := x.cmd.node
  let w := [w32 (place (s.unitSet node).length 0 16)]
  let s1 := s.restartLease
  let granted := match (s.slot i).store with | some (h, _) => h.nodes.contains node | none => false
  let open_ := vatOpenNow s.vat.st
  let bad : State × Out := (s1, { outWords w with status := 0x21 })
  if !granted then bad
  else if pb x.cmd 2 8 then
    let s2 := s1.updSlot i (fun a => { a with grants := a.grants.filter (· != node)
                                              stagedGrants := a.stagedGrants.filter (· != node) })
    (if open_ then s2.vatTouched else s2, outWords w)
  else if open_ then
    ((s1.updSlot i (fun a => { a with stagedGrants := insertAsc node a.stagedGrants })).vatTouched, outWords w)
  else bad

def appStCode (a : AppSt) : Nat :=
  match a with | .empty => 0 | .loading => 1 | .writing => 2 | .ready => 3 | .started => 4

def runAppletStatus (x : Ctx) (s : State) : State × Out :=
  let a := s.slot (pf x.cmd 2 0 3)
  let on := a.st == .started
  let w3 := place (appStCode a.st) 0 3 + 8 * b2n a.staged.isSome + place a.stopCause 4 4 +
    place (b2n (on && !a.grants.isEmpty)) 8 1 + place a.gen 16 8 + place (if on then a.overRun else 0) 24 8
  let bud := match a.live with | some l => if on then l.budget else 0 | none => 0
  (s, outWords [w32 w3, w32 (place bud 0 21), w32 (place a.lastCycles 0 21), w32 (place a.maxCycles 0 21),
    w32 (place a.overruns 0 8 + place a.cuts 8 8 + place a.lostCnt 16 8 + place a.busyCnt 24 8),
    a.trap.w0, a.trap.w1, a.trap.w2, a.trap.w3])

/-! ### Service calls (R424, R425) -/

/-- A service returns: status in g1, result in g2, its own cost over the 4 cycles of SVC (R404). -/
def State.svcDone (s : State) (status : Nat) (v : Word) (cost : Nat) : State × Option XTrap :=
  (((s.setGr 1 (w32 status)).setGr 2 v).step4 (4 + cost), none)
/-- A service that fails leaves g2 open: the spec states no result (log 13). -/
def State.svcFail (s : State) (status cost : Nat) : State × Option XTrap :=
  let r := s.fresh
  r.2.svcDone status r.1 cost
/-- Argument in gi. -/
def State.garg (s : State) (i : Fin 16) : Nat := (s.gr i).toNat

def State.svcReadIn (s : State) : State × Option XTrap :=
  let h := s.garg 1
  if 1 < h then s.svcFail 0x14 20
  else s.svcDone 0 (w32 (listMask ((List.range 32).filter (fun n => (s.si (32 * h + n)).snapState)))) 20

def State.svcInChg (s : State) : State × Option XTrap :=
  let h := s.garg 1
  let i := s.core.slot
  if 1 < h then s.svcFail 0x14 20
  else
    let v := listMask ((List.range 32).filter (fun n => (s.si (32 * h + n)).appLatch.testBit i))
    (s.forEach (List.range 32) (fun t n => t.updPort (32 * h + n) (fun p =>
      { p with appLatch := if p.appLatch.testBit i then p.appLatch - 2 ^ i else p.appLatch }))).svcDone 0 (w32 v) 20

def State.svcResult (s : State) : State × Option XTrap :=
  let w := match kvGet (s.slot s.core.slot).results (s.garg 1) with
    | some r => place r.status 0 8 + place r.acted 8 8 + place r.lost 16 8 + place r.op 24 8
    | none => 0xFF
  s.svcDone 0 (w32 w) 20

def State.svcDiag (s : State) : State × Option XTrap :=
  let node := s.garg 1
  let known := match nodeKind node with
    | none => false
    | some .cask => (caskMembers s.live.casks node).isSome
    | _ => true
  if !known then s.svcFail 0x13 30
  else if nodeAbsent s.var node then s.svcFail 0x23 30
  else s.svcDone 0 ((s.aggregate (s.unitSet node)).head?.getD 0) 30

def State.svcSense (s : State) : State × Option XTrap :=
  if 63 < s.garg 1 then s.svcFail 0x14 20 else s.svcDone 0 (siSense (s.si (s.garg 1))) 20

def State.svcFieldIn (s : State) : State × Option XTrap :=
  if !hasField s.var then s.svcFail 0x23 20
  else s.svcDone 0 ((runFieldRead { (default : Ctx) with op := 0x39 } s).2.words.head?.getD 0) 20

def State.svcTickTime (s : State) : State × Option XTrap :=
  if 3 < s.garg 1 then s.svcFail 0x14 20 else s.svcDone 0 (w32 (vget s.tim.tick (s.garg 1))) 20

def State.svcAccStat (s : State) : State × Option XTrap :=
  if hasAccess s.var then s.svcDone 0 s.accStat 20 else s.svcFail 0x23 20

/-- Opcodes that a request may name, by service and capabilities (R425). -/
def requestOp (buf : Bool) (caps op : Nat) : Bool :=
  if buf then (caps.testBit 0 && (op == 0x40 || op == 0x43)) || (caps.testBit 1 && (op == 0x48 || op == 0x4B))
  else outputOpcode op || (caps.testBit 2 && (op == 0x50 || op == 0x51))
/-- Payload length that the opcode fixes for REQUEST. -/
def requestLen (op : Nat) : Nat :=
  if op = 0x23 then 2 else if op = 0x2A ∨ op = 0x50 ∨ op = 0x51 then 0 else 1
/-- The node is granted, or is a unit that a granted cask reaches; network opcodes name the root. -/
def State.requestNode (s : State) (op node : Nat) : Bool :=
  if outputOpcode op then
    match (s.slot s.core.slot).store with
    | some (h, _) => h.nodes.contains node || (isUnit node && h.nodes.any (fun g => (reachLive s g).contains node))
    | none => false
  else node == 0

/-- The checks of R425 that do not need the payload: the refusing status, if any. -/
def State.requestCheck (s : State) (buf : Bool) : Option Nat :=
  let op := s.garg 1
  let node := s.garg 2
  let caps := match (s.slot s.core.slot).store with | some (h, _) => h.caps | none => 0
  if !requestOp buf caps op then some 0x12
  else if !s.requestNode op node then some 0x13
  else if s.opcodeAbsent op then some 0x23
  else s.targetCheck op { (default : HostCmd) with node := node }

/-- A request with its payload: the rest of the checks, then the queue of the next racking (R425). -/
def State.issue (s : State) (payload : List Word) (cost : Nat) : State × Option XTrap :=
  let op := s.garg 1
  let c : HostCmd := { seq := 0, node := s.garg 2, flags := s.garg 3, payload := payload }
  let i := s.core.slot
  if payloadAbsent s op c then s.svcFail 0x23 cost
  else if decide (65536 ≤ s.garg 3) || cLater c != 0 || !paramsOk s op c then s.svcFail 0x14 cost
  else if decide (16 ≤ s.core.issued) || !s.eng.room false (chargeOf op c) then
    (s.updSlot i (fun a => { a with busyCnt := satInc a.busyCnt 255 })).svcFail 0x30 cost
  else
    let n := s.core.issued
    let q : QCmd := { op := op, cmd := c, charge := chargeOf op c, ack := false, slot := some i, req := n }
    ({ s with eng := s.eng.push false q }.updCore (fun k => { k with issued := k.issued + 1 })).svcDone 0x01 (w32 n) cost

def State.svcRequest (s : State) : State × Option XTrap :=
  match s.requestCheck false with
  | some st => s.svcFail st 40
  | none => s.issue ([s.gr 4, s.gr 5, s.gr 6].take (requestLen (s.garg 1))) 40

/-- Words of a REQUEST_BUF payload read through the segment; a bus error is a trap (R21). -/
def State.readBuf (s : State) (k : Nat) : Nat → Nat → List Word → State × (List Word ⊕ XTrap)
  | 0, _, l => (s, .inl l.reverse)
  | n + 1, o, l =>
      match s.xLoad k 1 2 o with
      | (t, .inl v) => t.readBuf k n (o + 4) (v :: l)
      | (t, .inr e) => (t, .inr e)

def State.svcRequestBuf (s : State) : State × Option XTrap :=
  let k := s.garg 4
  let o := s.garg 5
  let n := s.garg 6
  match s.requestCheck true with
  | some st => s.svcFail st 40
  | none =>
      let d := s.segd k
      if decide (1 ≤ k) && decide (k ≤ 5) && decide (1 ≤ n) && decide (n ≤ 64) && d.r && o % 4 == 0 &&
         decide (o + 4 * n ≤ d.limit) then
        match s.readBuf k n o [] with
        | (t, .inl l) => t.issue l (40 + 2 * n)
        | (t, .inr e) => (t, some e)
      else s.svcFail 0x14 40

/-- The services by number; any other number traps with SVC (R404). -/
def State.service (n : Nat) (s : State) : State × Option XTrap :=
  match n with
  | 0x01 => s.svcReadIn
  | 0x02 => s.svcInChg
  | 0x03 => s.svcResult
  | 0x04 => s.svcDiag
  | 0x05 => s.svcSense
  | 0x06 => s.svcFieldIn
  | 0x07 => s.svcTickTime
  | 0x08 => s.svcAccStat
  | 0x10 => s.svcRequest
  | 0x11 => s.svcRequestBuf
  | _ => (s, some (plainTrap 0x0B 0))

/-! ### Execution -/

/-- The effect of any instruction of the core. -/
def xkEffect (i : Instr) : State → State × Option XTrap :=
  match i with
  | .svc n => State.service n.toNat
  | i => xkBase i
/-- An instruction of the core as a command: it executes on the core as it stands (log 14). -/
def State.xkRow (s : State) (i : Instr) : State := s.xkIssue ((encodeXk i).getD 0) (xkEffect i)
/-- A service call as a command. -/
def State.svcRow (s : State) (n : Nat) : State := s.xkIssue ((encodeXk (.svc (BitVec.ofNat 18 n))).getD 0) (State.service n)

/-- A trap of the fetch: FETCH beyond the LIMIT of S0, or MEM_ECC (R407, R408). -/
def State.fetchTrap (s : State) (code : Nat) : State :=
  s.xkTrap 0 { code := code, seg := 0, access := 0, size := 2, off := 0 }

/-- One instruction of a run: the budget is compared, then fetch, decode and execution (R406). -/
def State.runStep (s : State) : State :=
  if s.core.run != .running then s
  else if s.core.budget ≤ s.core.cycles then s.xkOverrun
  else if (s.segd 0).limit ≤ s.core.pc.toNat then s.fetchTrap 0x02
  else
    match s.busRead { m := 1, kind := 2, size := 2 } (s.segAddr 0 s.core.pc.toNat) .clean with
    | (t, w, .ok) =>
        match decodeXk w with
        | some i => t.xkIssue w (xkEffect i)
        | none => t.xkTrap w (plainTrap 0x01 0)
    | (t, _, _) => t.fetchTrap 0x0D
/-- The instruction a run issues next is a store, whose bus write is granted in its first cycle (R406, log 64). -/
def State.storeNext (s : State) : Bool :=
  match s.busRead { m := 1, kind := 2, size := 2 } (s.segAddr 0 s.core.pc.toNat) .clean with
  | (_, w, .ok) => match decodeXk w with
    | some (.stw ..) | some (.sth ..) | some (.stb ..) | some (.push ..) => true
    | _ => false
  | _ => false
/-- The step from s to t is in progress as the window closes after `limit` cycles: it passes the close, or traps in the
same cycle (R406). -/
def State.abandons (s t : State) (limit : Nat) : Bool :=
  decide (limit < t.core.cycles) && !(s.storeNext && t.core.run != .trapped)
    || t.core.run == .trapped && decide (limit ≤ t.core.cycles)
/-- Instructions until the run ends or `limit` cycles of it have passed; the one in progress then is abandoned (R406). -/
def State.runFor (limit : Nat) : Nat → State → State
  | 0, s => s
  | fuel + 1, s =>
      if s.core.run == .running && decide (s.core.cycles < limit) then
        let t := s.runStep
        if s.abandons t limit then s.updCore (fun c => { c with cycles := limit }) else State.runFor limit fuel t
      else s

/-- The start of a run (R393, R412). -/
def State.beginRun (s : State) (i : Nat) : State :=
  let a := s.slot i
  let h := match a.store with | some (h, _) => h | none => default
  let seg := fun (k : Nat) => match k with
    | 0 => (⟨codeBase i, h.codeSize, true, false, true, false⟩ : SegDesc)
    | 1 => ⟨dataBase i, h.dataSize, true, true, false, false⟩
    | 6 => ⟨dataBase i + h.dataSize, h.spillSize, true, true, false, false⟩
    | 7 => seg7
    | k => vget h.segs (k - 2)
  { s with core := { (default : Core) with
      pc := w32 h.entry, dsp := w32 (h.dataSize / 4 * 4), seg := tab 8 seg, slot := i
      budget := match a.live with | some l => l.budget | none => 0
      run := .running } }

/-- The end of a run is booked: cycles, consecutive overruns, and the stops of R420 (R422). -/
def State.bookRun (s : State) : State :=
  let i := s.core.slot
  let n := s.core.cycles
  let s1 := { s with appTodo := s.appTodo.filter (· != i) }.updSlot i (fun a =>
    { a with lastCycles := n, maxCycles := max a.maxCycles n, fresh := false })
  match s.core.run with
  | .overrun =>
      let s2 := s1.updSlot i (fun a => { a with overRun := satInc a.overRun 255, overruns := satInc a.overruns 255 })
      match (s2.slot i).live with
      | some l => if l.ovrStop != 0 && decide (l.ovrStop ≤ (s2.slot i).overRun) then s2.stopApplet i 3 false else s2
      | none => s2
  | .trapped => (s1.updSlot i (fun a => { a with overRun := 0 })).stopApplet i 2 false
  | .cut => s1.updSlot i (fun a => { a with cuts := satInc a.cuts 255 })
  | _ => s1.updSlot i (fun a => { a with overRun := 0 })

/-- Step 5: the slots run in order while cycles are left before the window closes; what does not end is
left running, to be cut (R112, R114). -/
def State.runSlots (s : State) : List Nat → Nat → State
  | [], _ => s
  | i :: r, left =>
      if !(s.appTodo.contains i) then s.runSlots r left
      else if left = 0 then s
      else
        let b := s.beginRun i
        let t := State.runFor left (b.core.budget + 2) b
        if t.core.run == .running then t
        else t.bookRun.runSlots r (left - min left t.core.cycles)

/-- Cycles between the end of racking and the close of the applet window (R110, R114). -/
def State.windowCycles (s : State) : Nat := (s.period * 9 / 10 - 10 * s.clk.rackTime) / 5

/-- SYS cycles that the delay of a fail-over takes from the window, 150 µs or less in all (R115, log 92). -/
def State.slipCut (s : State) (cut : Nat) : Nat := if s.clk.failOver then min cut 30000 else 0

/-- Step 5 of a frame (R112). -/
def State.appletStep (cut : Nat) (s : State) : State :=
  let todo := (List.range 8).filter (fun i => (s.slot i).st == .started)
  ({ s with appTodo := todo }).runSlots todo (s.windowCycles - s.slipCut cut)

/-- The applet window closes: the running applet is cut, the slots that have not run are skipped, and
FRAME_OVERRUN is counted (R114). -/
def State.windowClose (s : State) : State :=
  if s.appTodo.isEmpty then s
  else
    let s1 := if s.core.run == .running then (s.updCore (fun c => { c with run := .cut })).bookRun else s
    let s2 := { s1 with appTodo := [], clk := { s1.clk with overrun := satInc s1.clk.overrun 255 } }
    s2.fault 0x11 0

def execAppletWindowClose (at_ : Nat) (s : State) : Host.Outcome State Fault Refusal :=
  let s0 := s.atPhase at_
  s.done (if s0.inRun && decide (9 * s0.period ≤ 100 * s0.clk.phase) then s0.windowClose else s0)

/-! ### Rows: instructions of the core -/

def execAdd (rd ra rb : Fin 16) (s : State) : Host.Outcome State Fault Refusal := s.done (s.xkRow (.add rd ra rb))
def execSub (rd ra rb : Fin 16) (s : State) : Host.Outcome State Fault Refusal := s.done (s.xkRow (.sub rd ra rb))
def execAnd (rd ra rb : Fin 16) (s : State) : Host.Outcome State Fault Refusal := s.done (s.xkRow (.and_ rd ra rb))
def execOr (rd ra rb : Fin 16) (s : State) : Host.Outcome State Fault Refusal := s.done (s.xkRow (.or_ rd ra rb))
def execXor (rd ra rb : Fin 16) (s : State) : Host.Outcome State Fault Refusal := s.done (s.xkRow (.xor_ rd ra rb))
def execShl (rd ra rb : Fin 16) (s : State) : Host.Outcome State Fault Refusal := s.done (s.xkRow (.shl rd ra rb))
def execShr (rd ra rb : Fin 16) (s : State) : Host.Outcome State Fault Refusal := s.done (s.xkRow (.shr rd ra rb))
def execSar (rd ra rb : Fin 16) (s : State) : Host.Outcome State Fault Refusal := s.done (s.xkRow (.sar rd ra rb))
def execMul (rd ra rb : Fin 16) (s : State) : Host.Outcome State Fault Refusal := s.done (s.xkRow (.mul rd ra rb))
def execMulh (rd ra rb : Fin 16) (s : State) : Host.Outcome State Fault Refusal := s.done (s.xkRow (.mulh rd ra rb))
def execMulhu (rd ra rb : Fin 16) (s : State) : Host.Outcome State Fault Refusal := s.done (s.xkRow (.mulhu rd ra rb))
def execDiv (rd ra rb : Fin 16) (s : State) : Host.Outcome State Fault Refusal := s.done (s.xkRow (.div rd ra rb))
def execDivu (rd ra rb : Fin 16) (s : State) : Host.Outcome State Fault Refusal := s.done (s.xkRow (.divu rd ra rb))
def execRem (rd ra rb : Fin 16) (s : State) : Host.Outcome State Fault Refusal := s.done (s.xkRow (.rem rd ra rb))
def execRemu (rd ra rb : Fin 16) (s : State) : Host.Outcome State Fault Refusal := s.done (s.xkRow (.remu rd ra rb))
def execMin (rd ra rb : Fin 16) (s : State) : Host.Outcome State Fault Refusal := s.done (s.xkRow (.min_ rd ra rb))
def execMax (rd ra rb : Fin 16) (s : State) : Host.Outcome State Fault Refusal := s.done (s.xkRow (.max_ rd ra rb))
def execMinu (rd ra rb : Fin 16) (s : State) : Host.Outcome State Fault Refusal := s.done (s.xkRow (.minu rd ra rb))
def execMaxu (rd ra rb : Fin 16) (s : State) : Host.Outcome State Fault Refusal := s.done (s.xkRow (.maxu rd ra rb))
def execSeq (rd ra rb : Fin 16) (s : State) : Host.Outcome State Fault Refusal := s.done (s.xkRow (.seq rd ra rb))
def execSne (rd ra rb : Fin 16) (s : State) : Host.Outcome State Fault Refusal := s.done (s.xkRow (.sne rd ra rb))
def execSlt (rd ra rb : Fin 16) (s : State) : Host.Outcome State Fault Refusal := s.done (s.xkRow (.slt rd ra rb))
def execSltu (rd ra rb : Fin 16) (s : State) : Host.Outcome State Fault Refusal := s.done (s.xkRow (.sltu rd ra rb))
def execSle (rd ra rb : Fin 16) (s : State) : Host.Outcome State Fault Refusal := s.done (s.xkRow (.sle rd ra rb))
def execSleu (rd ra rb : Fin 16) (s : State) : Host.Outcome State Fault Refusal := s.done (s.xkRow (.sleu rd ra rb))
def execAddi (rd ra : Fin 16) (imm : BitVec 18) (s : State) : Host.Outcome State Fault Refusal := s.done (s.xkRow (.addi rd ra imm))
def execAndi (rd ra : Fin 16) (imm : BitVec 18) (s : State) : Host.Outcome State Fault Refusal := s.done (s.xkRow (.andi rd ra imm))
def execOri (rd ra : Fin 16) (imm : BitVec 18) (s : State) : Host.Outcome State Fault Refusal := s.done (s.xkRow (.ori rd ra imm))
def execXori (rd ra : Fin 16) (imm : BitVec 18) (s : State) : Host.Outcome State Fault Refusal := s.done (s.xkRow (.xori rd ra imm))
def execShli (rd ra : Fin 16) (sh : BitVec 5) (s : State) : Host.Outcome State Fault Refusal := s.done (s.xkRow (.shli rd ra sh))
def execShri (rd ra : Fin 16) (sh : BitVec 5) (s : State) : Host.Outcome State Fault Refusal := s.done (s.xkRow (.shri rd ra sh))
def execSari (rd ra : Fin 16) (sh : BitVec 5) (s : State) : Host.Outcome State Fault Refusal := s.done (s.xkRow (.sari rd ra sh))
def execSeqi (rd ra : Fin 16) (imm : BitVec 18) (s : State) : Host.Outcome State Fault Refusal := s.done (s.xkRow (.seqi rd ra imm))
def execSlti (rd ra : Fin 16) (imm : BitVec 18) (s : State) : Host.Outcome State Fault Refusal := s.done (s.xkRow (.slti rd ra imm))
def execSltui (rd ra : Fin 16) (imm : BitVec 18) (s : State) : Host.Outcome State Fault Refusal := s.done (s.xkRow (.sltui rd ra imm))
def execLui (rd : Fin 16) (imm : BitVec 16) (s : State) : Host.Outcome State Fault Refusal := s.done (s.xkRow (.lui rd imm))
def execLdw (rd ra : Fin 16) (seg : Fin 8) (imm : BitVec 15) (s : State) : Host.Outcome State Fault Refusal := s.done (s.xkRow (.ldw rd ra seg imm))
def execLdh (rd ra : Fin 16) (seg : Fin 8) (imm : BitVec 15) (s : State) : Host.Outcome State Fault Refusal := s.done (s.xkRow (.ldh rd ra seg imm))
def execLdhu (rd ra : Fin 16) (seg : Fin 8) (imm : BitVec 15) (s : State) : Host.Outcome State Fault Refusal := s.done (s.xkRow (.ldhu rd ra seg imm))
def execLdb (rd ra : Fin 16) (seg : Fin 8) (imm : BitVec 15) (s : State) : Host.Outcome State Fault Refusal := s.done (s.xkRow (.ldb rd ra seg imm))
def execLdbu (rd ra : Fin 16) (seg : Fin 8) (imm : BitVec 15) (s : State) : Host.Outcome State Fault Refusal := s.done (s.xkRow (.ldbu rd ra seg imm))
def execStw (rd ra : Fin 16) (seg : Fin 8) (imm : BitVec 15) (s : State) : Host.Outcome State Fault Refusal := s.done (s.xkRow (.stw rd ra seg imm))
def execSth (rd ra : Fin 16) (seg : Fin 8) (imm : BitVec 15) (s : State) : Host.Outcome State Fault Refusal := s.done (s.xkRow (.sth rd ra seg imm))
def execStb (rd ra : Fin 16) (seg : Fin 8) (imm : BitVec 15) (s : State) : Host.Outcome State Fault Refusal := s.done (s.xkRow (.stb rd ra seg imm))
def execPush (rd : Fin 16) (s : State) : Host.Outcome State Fault Refusal := s.done (s.xkRow (.push rd))
def execPop (rd : Fin 16) (s : State) : Host.Outcome State Fault Refusal := s.done (s.xkRow (.pop rd))
def execDspadj (imm : BitVec 16) (s : State) : Host.Outcome State Fault Refusal := s.done (s.xkRow (.dspadj imm))
def execDspget (rd : Fin 16) (s : State) : Host.Outcome State Fault Refusal := s.done (s.xkRow (.dspget rd))
def execDspset (ra : Fin 16) (s : State) : Host.Outcome State Fault Refusal := s.done (s.xkRow (.dspset ra))
def execRdfeat (rd : Fin 16) (imm : BitVec 18) (s : State) : Host.Outcome State Fault Refusal := s.done (s.xkRow (.rdfeat rd imm))
def execMfs (rd : Fin 16) (imm : BitVec 18) (s : State) : Host.Outcome State Fault Refusal := s.done (s.xkRow (.mfs rd imm))
def execBz (rt : Fin 16) (disp : BitVec 22) (s : State) : Host.Outcome State Fault Refusal := s.done (s.xkRow (.bz rt disp))
def execBnz (rt : Fin 16) (disp : BitVec 22) (s : State) : Host.Outcome State Fault Refusal := s.done (s.xkRow (.bnz rt disp))
def execCall (disp : BitVec 26) (s : State) : Host.Outcome State Fault Refusal := s.done (s.xkRow (.call disp))
def execCallr (ra : Fin 16) (s : State) : Host.Outcome State Fault Refusal := s.done (s.xkRow (.callr ra))
def execJr (ra : Fin 16) (s : State) : Host.Outcome State Fault Refusal := s.done (s.xkRow (.jr ra))
def execRet (s : State) : Host.Outcome State Fault Refusal := s.done (s.xkRow (.ret))
def execSvc (n : BitVec 18) (s : State) : Host.Outcome State Fault Refusal := s.done (s.xkRow (.svc n))
def execYield (s : State) : Host.Outcome State Fault Refusal := s.done (s.xkRow (.yield))
def execBreak (imm : BitVec 18) (s : State) : Host.Outcome State Fault Refusal := s.done (s.xkRow (.break imm))
def execQmul (rd ra rb : Fin 16) (f : BitVec 5) (s : State) : Host.Outcome State Fault Refusal := s.done (s.xkRow (.qmul rd ra rb f))
def execQdiv (rd ra rb : Fin 16) (f : BitVec 5) (s : State) : Host.Outcome State Fault Refusal := s.done (s.xkRow (.qdiv rd ra rb f))
def execQadd (rd ra rb : Fin 16) (s : State) : Host.Outcome State Fault Refusal := s.done (s.xkRow (.qadd rd ra rb))
def execQsub (rd ra rb : Fin 16) (s : State) : Host.Outcome State Fault Refusal := s.done (s.xkRow (.qsub rd ra rb))
def execSat (rd ra : Fin 16) (n : Fin 33) (s : State) : Host.Outcome State Fault Refusal := s.done (s.xkRow (.sat rd ra n))
def execSatu (rd ra : Fin 16) (n : Fin 32) (s : State) : Host.Outcome State Fault Refusal := s.done (s.xkRow (.satu rd ra n))
def execQabs (rd ra : Fin 16) (s : State) : Host.Outcome State Fault Refusal := s.done (s.xkRow (.qabs rd ra))
def execIsqrt (rd ra : Fin 16) (s : State) : Host.Outcome State Fault Refusal := s.done (s.xkRow (.isqrt rd ra))
def execAclr (s : State) : Host.Outcome State Fault Refusal := s.done (s.xkRow (.aclr))
def execMac (ra rb : Fin 16) (s : State) : Host.Outcome State Fault Refusal := s.done (s.xkRow (.mac ra rb))
def execMsu (ra rb : Fin 16) (s : State) : Host.Outcome State Fault Refusal := s.done (s.xkRow (.msu ra rb))
def execArd (rd : Fin 16) (f : BitVec 6) (s : State) : Host.Outcome State Fault Refusal := s.done (s.xkRow (.ard rd f))
def execArdl (rd : Fin 16) (s : State) : Host.Outcome State Fault Refusal := s.done (s.xkRow (.ardl rd))
def execArdh (rd : Fin 16) (s : State) : Host.Outcome State Fault Refusal := s.done (s.xkRow (.ardh rd))
def execAwr (ra rb : Fin 16) (s : State) : Host.Outcome State Fault Refusal := s.done (s.xkRow (.awr ra rb))
def execCrci (ra : Fin 16) (s : State) : Host.Outcome State Fault Refusal := s.done (s.xkRow (.crci ra))
def execCrcw (ra : Fin 16) (s : State) : Host.Outcome State Fault Refusal := s.done (s.xkRow (.crcw ra))
def execCrcb (ra : Fin 16) (s : State) : Host.Outcome State Fault Refusal := s.done (s.xkRow (.crcb ra))
def execCrcr (rd : Fin 16) (s : State) : Host.Outcome State Fault Refusal := s.done (s.xkRow (.crcr rd))
def execAkey (ra : Fin 16) (i : Fin 4) (s : State) : Host.Outcome State Fault Refusal := s.done (s.xkRow (.akey ra i))
def execAin (ra : Fin 16) (i : Fin 4) (s : State) : Host.Outcome State Fault Refusal := s.done (s.xkRow (.ain ra i))
def execAenc (s : State) : Host.Outcome State Fault Refusal := s.done (s.xkRow (.aenc))
def execAout (rd : Fin 16) (i : Fin 4) (s : State) : Host.Outcome State Fault Refusal := s.done (s.xkRow (.aout rd i))

/-! ### Rows: service calls -/

def execReadIn (s : State) : Host.Outcome State Fault Refusal := s.done (s.svcRow 0x01)
def execInChg (s : State) : Host.Outcome State Fault Refusal := s.done (s.svcRow 0x02)
def execResult (s : State) : Host.Outcome State Fault Refusal := s.done (s.svcRow 0x03)
def execDiag (s : State) : Host.Outcome State Fault Refusal := s.done (s.svcRow 0x04)
def execSense (s : State) : Host.Outcome State Fault Refusal := s.done (s.svcRow 0x05)
def execFieldIn (s : State) : Host.Outcome State Fault Refusal := s.done (s.svcRow 0x06)
def execTickTime (s : State) : Host.Outcome State Fault Refusal := s.done (s.svcRow 0x07)
def execSvcAccStat (s : State) : Host.Outcome State Fault Refusal := s.done (s.svcRow 0x08)
def execRequest (s : State) : Host.Outcome State Fault Refusal := s.done (s.svcRow 0x10)
def execRequestBuf (s : State) : Host.Outcome State Fault Refusal := s.done (s.svcRow 0x11)

end Sys2Proof.Machine
end

