-- ==== Sys2Proof/Machine/FaultCmd.lean ====
section
/-! DEFINITION. The fault commands (R443), FAULT_TEST from its output update to its end (R444), and the
exit from RECOVERY (R437). -/

namespace Sys2Proof.Machine

/-! ### Reading -/

def runFaultStatus (_ : Ctx) (s : State) : State × Out :=
  (s, outWords [s.faultStat, s.faultRecov, s.faultSevere 0, s.faultSevere 1, s.faultSevere 2,
    w32 (place s.flt.lastChip 0 8)])

def runFaultCapture (x : Ctx) (s : State) : State × Out :=
  (s, outWords (capWords s.flt.first ++
    ((List.range (pf x.cmd 2 8 8)).flatMap (fun i =>
      let k := pf x.cmd 2 0 8 + i
      s.srcStat k :: capWords (s.src k).cap))))

/-- FAULT_NOTIFY: the pending bits, cleared when the reply enters the queue (R442, R486). -/
def runFaultNotify (_ : Ctx) (s : State) : State × Out :=
  (s, { outWords [s.faultPend 0, s.faultPend 1, s.faultPend 2] with
        clrPend := listMask ((List.range 96).filter (fun i => (s.src i).pend)) })

/-! ### FAULT_CLEAR -/

/-- Everything that FAULT_CLEAR clears of one source. -/
def clearedSrc (f : FaultSrc) : FaultSrc :=
  { f with count := 0, openAt := none, total := 0, severeCnt := 0, captured := false, cap := default
           severe := false, pend := false }

def runFaultClear (x : Ctx) (s : State) : State × Out :=
  let named := (List.range 94).filter (fun i => bit (pw x.cmd (2 + i / 32)) (i % 32))
  let s1 := s.forEach named (fun t i => t.updSrc i clearedSrc)
  let f := s1.flt
  let s2 := { s1 with flt := { f with
    first := if pb x.cmd 5 0 then default else f.first
    firstSet := f.firstSet && !pb x.cmd 5 0
    fltnHold := f.fltnHold && !(pb x.cmd 5 1 && f.st == .normal) } }
  (s2, outWords [s2.faultStat])

/-! ### FAULT_TEST (R444) -/

/-- FAULT_TEST at its racking: refused outside NORMAL or for a fixed source; else the test waits for the
output update. -/
def runFaultTest (x : Ctx) (s : State) : State × Option Out :=
  let i := pf x.cmd 2 0 8
  if s.flt.st != .normal || s.flt.test.isSome || (fixedReact i).isSome then (s, some (outStatus 0x21))
  else if !s.eng.outstRoom then (s, some (outStatus 0x30))
  else
    let t : FTest := { src := i, events := pf x.cmd 2 8 8, ticket := s.eng.nextTicket, severe := false
                       react := 0, raised := false, aborted := false }
    (({ s with flt := { s.flt with test := some t } }).addOutst x.op x.cmd .faultTest, none)

/-- One injected event: counted under R429, its severe transition notified but with no reaction beyond the
trap of REACT 2. -/
def State.injectEvent (s : State) (t : FTest) : State :=
  let ev : FEvent := { plainEvent t.src 0 with access := 4 }
  let r := s.countEvent ev
  if r.2 then
    let a := r.1.notifySevere t.src
    let re := s.faultReact t.src
    { a with pwr := { a.pwr with nmi := a.pwr.nmi || re == 2 }
             flt := { a.flt with test := some { t with severe := true, react := re
                                                       raised := re != 0 || s.fltnEn t.src } } }
  else r.1

/-- The events of a test, one after the other. -/
def State.injectAll (s : State) : Nat → State
  | 0 => s
  | n + 1 =>
      match s.flt.test with
      | some t => (s.injectEvent t).injectAll n
      | none => s

/-- A test that waits begins at the output update: TEST, the safe state, the injected events. -/
def State.beginTest (s : State) : State :=
  match s.flt.test with
  | some t =>
      if s.flt.st == .normal then
        let s1 := s.forceSafe
        { s1 with flt := { s1.flt with st := .test, cause := t.src } }.injectAll t.events
      else s
  | none => s

/-- Word 3 of the answer to FAULT_TEST. -/
def testWord (t : FTest) : Word :=
  w32 (b2n t.severe + place t.react 8 3 + place (b2n (t.severe && t.raised)) 16 1 + place (b2n t.aborted) 31 1)

/-- The test ends at the racking after its output update: the source is IDLE with COUNT 0, the safe state
lifts unless a recovery holds it, and FAULT_TEST is answered. -/
def State.endTest (s : State) : State :=
  match s.flt.test with
  | some t =>
      if s.flt.st == .normal then s
      else
        let s1 := s.updSrc t.src (fun f => { f with count := 0, openAt := none })
        let f := s1.flt
        let back := f.st == .test
        { s1 with flt := { f with test := none, st := if back then .normal else f.st
                                  safe := f.safe && !back } }.answer (fun o => o.ticket == t.ticket) 0 [testWord t]
  | none => s

/-! ### RECOVERY exit (R437) -/

/-- The quiet period has passed. -/
def State.quietPassed (s : State) : Bool :=
  s.flt.st == .recovery && decide (s.flt.quietFrom + s.cfg 0x400D0000 0 10 * 10000000 ≤ s.now)

/-- RECOVERY is left: SAFE, DECLARED and, with FLTN_AUTO, FLTN_HOLD clear; the released channels follow
as releases of R199. -/
def State.recoveryEnd (s : State) : State :=
  if s.quietPassed then
    { s with flt := { s.flt with
        st := .normal, safe := false, declared := 0
        recoveries := satInc s.flt.recoveries 65535
        fltnHold := s.flt.fltnHold && !s.cfgBit 0x400D0000 10 } }
  else s

/-- At the place of the releases of R199: the end of a test, the exit from RECOVERY, then the releases in
ascending node ID. -/
def State.releaseStage (s : State) : State := s.endTest.recoveryEnd.releases

/-- An instant of the racking, which ends 61 µs after the tick; the releases come before its commands (R112, R199). -/
def State.inRacking (s : State) : Bool := decide (s.clk.phase ≤ 6100)

/-- RECOVERY is left at a racking, at the place of the releases of R199. -/
def execRecoveryExit (at_ : Nat) (s : State) : Host.Outcome State Fault Refusal :=
  let s0 := s.atPhase at_
  s.done (if s0.inRun && s0.inRacking && s0.quietPassed then s0.recoveryEnd.releases else s0)

/-- WINDOW ms after it opened, the source returns to IDLE with COUNT 0 (R429). -/
def State.closeWindow (s : State) (i : Nat) : State :=
  match (s.src i).openAt with
  | some _ => if s.winOpen i then s else s.updSrc i (fun f => { f with count := 0, openAt := none })
  | none => s

def execFaultWindowClose (at_ : Nat) (n : Fin 96) (s : State) : Host.Outcome State Fault Refusal :=
  s.done ((s.atPhase at_).closeWindow n)

end Sys2Proof.Machine
end

