-- ==== Sys2Proof/Machine/Power.lean ====
section
/-! DEFINITION. Start-up (R70, R71, R31, R32, R96, R11, R41, R460), the causes of the three reset classes
(R61, R65-R68, R10, R98), the supply monitors (R61, R62, R65), the keepers' lease (R77), the limp pattern
(R79, R80) and the fail-over (R97-R100). -/

namespace Sys2Proof.Machine

/-! ### The boot ROM -/

/-- In the fuse-failed state all outputs are off, as after a power-on reset (R32). -/
def State.fuseOutputs (s : State) : State :=
  let s1 := s.forEach s.loads (fun t n => t.updLoad n (fun ch => { ch with keeper := default }))
  { s1 with pwr := { s1.pwr with leaseEnd := none, holdState := 0 } }

/-- Two reads of the fuse array agree and neither finds an uncorrectable error (R31). -/
def fusePair (p : Option Nat × Option Nat) : Bool := p.1.isSome && p.1 == p.2
/-- One of up to three pairs of reads is accepted (R31). -/
def fuseAccepted (l : List (Option Nat × Option Nat)) : Bool := (l.take 3).any fusePair

/-- The fuse reads (R31, R32). -/
def State.bootFuses (s : State) (reads : List (Option Nat × Option Nat)) : State :=
  let ok := fuseAccepted reads
  let s1 := { s with pwr := { s.pwr with fuseFailed := !ok } }
  if ok then s1 else s1.fuseOutputs.holdEvents [plainEvent 0x08 0]

/-- XCLK cycles in a window of 16 µs at a table frequency (R95, R96). -/
def xclkCount (code : Nat) : Nat :=
  16 * ([0, 8, 10, 12, 16, 20, 24, 25, 32, 40, 48, 50][code]?.getD 0)
/-- The table frequency whose expected count over 16 windows lies within ±2 % of the corrected count
(R96 step 3); 0 none. -/
def xclkMatch (sum : Nat) : Nat :=
  ((List.range 12).find? (fun c => decide (0 < c) && decide (49 * (16 * xclkCount c) ≤ 50 * sum) &&
    decide (50 * sum ≤ 51 * (16 * xclkCount c)))).getD 0
/-- A window inside ±6 % of the expected count (R96 step 4). -/
def windowStable (code count : Nat) : Bool :=
  decide (94 * xclkCount code ≤ 100 * count) && decide (100 * count ≤ 106 * xclkCount code)
/-- XCLK is judged stable: 4096 consecutive cycles have passed with every complete window inside (R96
step 4). `run` counts the cycles since the latest window outside. -/
def xclkStable (code tail : Nat) : List Nat → Nat → Bool
  | [], run => decide (4096 ≤ run + tail)
  | w :: r, run => if windowStable code w then decide (4096 ≤ run + w) || xclkStable code tail r (run + w) else xclkStable code tail r 0
/-- What the identification of R96 gives: a table code judged stable in time, or 0. -/
def xclkFound (b : BootIn) : Nat :=
  let c := xclkMatch b.xclkSum
  if c ≠ 0 ∧ xclkStable c b.xclkTail b.xclkWin 0 = true then c else 0
/-- A window outside ±12.5 % of the expected count fails (R97). -/
def windowFails (code count : Nat) : Bool :=
  decide (8 * count < 7 * xclkCount code) || decide (9 * xclkCount code < 8 * count)

/-- The clock source of this start: a table frequency judged stable, or the fail-over state (R95, R96). The
domains move onto the PLL at 8 times the divider and step up (R100). -/
def State.findXclk (s : State) (b : BootIn) : State :=
  let code := xclkFound b
  let last := min ((b.xclkWin.getLast?).getD (b.xclkSum / 16)) 1023
  if code ≠ 0 then
    { s with clk := { s.clk with xclkSel := code, src := 1, pllLock := true, xclkOk := true, failOver := false
                                 lastCount := last, badWin := false, rampExp := 3, rampDir := 2 }
             tim := { s.tim with tb0Rc := false } }
  else
    { s with clk := { s.clk with xclkSel := 0, src := 2, pllLock := true, xclkOk := false, failOver := true
                                 lastCount := last, badWin := false, rampExp := 3, rampDir := 2 }
             tim := { s.tim with tb0Rc := true, rcSeen := true, rcAt := some s.now } }.holdEvents
      [plainEvent 0x02 0]

/-- Bits of a patch mask. -/
def patchList (m : Nat) : List Nat := maskList (m % 65536) 16

/-- Patches whose signature is good are applied, the others rejected (R11); none in the fuse-failed
state (R32). -/
def State.bootPatches (s : State) (b : BootIn) : State :=
  if s.pwr.fuseFailed then s
  else
    { s with pwr := { s.pwr with patchApplied := listMask ((patchList b.patches).filter (fun i => !(patchList b.rejected).contains i)),
                                 patchRejected := b.rejected % 65536,
                                 patchLevel := b.level % 65536 } }.holdEvents
      ((patchList b.rejected).map (fun i => plainEvent 0x09 i))

/-- A replacement of the ledger is in service again (R41): segment, SRAM row, flash page, CAN object,
filter bank. In the fuse-failed state only rows and pages (R32). -/
def State.reapply (s : State) (e : LedgerEntry) : State :=
  let unit := bits e.w0 16 8
  let item := bits e.w0 0 16
  let spare := bits e.w1 0 16
  match bits e.w0 28 4 with
  | 1 =>
      if s.pwr.fuseFailed then s
      else s.updLoad unit (fun c => { c with
        spareIn := true
        segs := vupd (vupd c.segs item (fun g => { g with state := if bits e.w0 24 4 = 1 then 2 else 3 })) spare
          (fun g => { g with state := if g.state = 0 then 1 else g.state }) })
  | 2 => s.updMem (fun m => { m with rowSpares := vupd m.rowSpares unit (fun l =>
      if l.contains (item, spare) || (vget m.badSpares unit).contains spare then l else l ++ [(item, spare)]) })
  | 3 => s.updMem (fun m =>
      if m.pageSpares.contains (item, spare) then m else { m with pageSpares := m.pageSpares ++ [(item, spare)] })
  | 4 =>
      if s.pwr.fuseFailed then s
      else s.updCan unit (fun c => { c with
        sparesUsed := insertAsc spare c.sparesUsed
        obj := kvSet c.obj item { (default : CanObj) with phys := spare } })
  | 5 => if s.pwr.fuseFailed then s else s.updCan unit (fun c => { c with filtSpare := true })
  | _ => s

/-- The ledger copies that the flash holds at this start: a rewrite that a warm reset met has been
completed (log 60). -/
def Feat.settle (f : Feat) (powerOn : Bool) : Feat :=
  if !powerOn && (f.rewriting || !f.waiting.isEmpty) then
    let g := { f with ledger := (f.ledger ++ f.waiting.foldl (fun l e => insertEntry e l) []).take 256, waiting := [] }
    { g with copyA := g.rewritten, copyB := g.rewritten }
  else f
/-- The newer valid copy (R41): one written whole whose CRC-32 matches. -/
def Feat.newest (f : Feat) (a b : Bool) : Option LedgerCopy :=
  match f.copyA.good && a, f.copyB.good && b with
  | true, true => some (if f.copyA.gen < f.copyB.gen then f.copyB else f.copyA)
  | true, false => some f.copyA
  | false, true => some f.copyB
  | false, false => none

/-- No valid copy: no replacement is in service until it is rediscovered (R43). -/
def State.forgetSpares (s : State) : State :=
  let s1 := s.forEach (List.range 48) (fun t n => t.updLoad n (fun c =>
    { c with spareIn := false, segs := tab 10 (fun i => { (vget c.segs i) with state := (segReset n i).state }) }))
  let s2 := s1.forEach (List.range 4) (fun t k => t.updCan k (fun c =>
    { c with sparesUsed := [], filtSpare := false, obj := [] }))
  s2.updMem (fun m => { m with rowSpares := default, badSpares := default, pageSpares := [] })

/-- The ledger is loaded and its replacements are in service again (R41, R43); a power-on start counts in
POWER_CYCLES, which is rewritten with the ledger, but not in the fuse-failed state (R32, R44). -/
def State.loadLedger (s : State) (a b : Bool) : State :=
  let on := s.pwr.powerOn && !s.pwr.fuseFailed
  let f := s.feat.settle s.pwr.powerOn
  match f.newest a b with
  | none =>
      let s1 := s.forgetSpares
      { s1 with feat := { f with ledgerValid := false, powerCycles := 0, ledger := [], waiting := []
                                 copyA := { f.copyA with good := false }, copyB := { f.copyB with good := false }
                                 rewriting := !s.pwr.fuseFailed } }.showSpares
  | some c =>
      let s1 := { s with feat := { f with
        ledgerValid := true, powerCycles := if on then satInc c.powerCycles 65535 else c.powerCycles
        ledger := c.entries, waiting := [], rewriting := on } }
      (c.entries.foldl State.reapply s1).showSpares

/-- LEDGER_INVALID (R43). -/
def State.ledgerEvent (s : State) : State :=
  if s.feat.ledgerValid then s else s.holdEvents [plainEvent 0x0A 0]

/-- A step of the memory self-test failed: its MEMINT_TEST bit, and MEM_SELFTEST (R460). -/
def State.testFail (s : State) (testBit step : Nat) (ok : Bool) : State :=
  if ok then s
  else { s with mem := { s.mem with test := s.mem.test &&& (0xFF ^^^ testBit) } }.holdEvents [plainEvent 0x5D step]

/-- Rows that the march finds bad: failing rows, and rows mapped to a failing spare. -/
def Mem.marchRows (m : Mem) (rows spares : List Nat) : List Nat :=
  (List.range 6).foldl (fun a b =>
    (vget m.rowSpares b).foldl (fun c p => if spares.contains (b * 16 + p.2) then insertAsc (b * 256 + p.1) c else c) a)
    ((rows.filter (fun r => decide (r < 1536))).foldl (fun a r => insertAsc r a) [])

/-- The march of R460 step 4: failed spares leave service, failed rows move to spares, and a bank with a
row that stays failed loses its bit. Then all SRAM reads 0 with valid codes. -/
def State.march (s : State) (b : BootIn) : State :=
  let rows := s.mem.marchRows b.badRows b.badSpares
  let s1 := s.updMem (fun m => (b.badSpares.filter (fun k => decide (k < 96))).foldl Mem.spoilRow m)
  let r := rows.foldl (fun (p : State × List Nat) key =>
    if (p.1.mem.spareRow (key / 256)).isSome then
      let t := p.1.replaceRow key 4
      (t.updMem (fun m => { m with rowsFixed := satInc m.rowsFixed 255 }), p.2)
    else (p.1.replaceRow key 4, insertAsc (key / 256) p.2)) (s1, [])
  (r.2.foldl (fun t bank => t.testFail (4 * 2 ^ bank) 4 false) r.1).updMem (fun m =>
    { m with bytes := [], poison := [], inj := [] })

/-- The memory self-test (R460). -/
def State.selfTest (s : State) (b : BootIn) : State :=
  let s1 := (s.testFail 1 1 b.wordOk).testFail 2 2 b.pageOk
  let s2 := if b.romOk then s1
    else ((s1.updMem (fun m => { m with ue := satInc m.ue 255 })).holdEvents [plainEvent 0x51 0]).testFail 0 3 false
  (s2.march b).testFail 0 5 b.flashOk

/-- The boot ROM, from the fuse reads to the patch check. -/
def State.boot (s : State) (b : BootIn) : State :=
  let s0 := if b.collectorOk then s else s.holdEvents [plainEvent 0x0B 0]
  let s1 := ((s0.bootFuses b.fuses).findXclk b).loadLedger b.ledgerA b.ledgerB
  let s2 := ((s1.selfTest b).ledgerEvent).bootPatches b
  { s2 with pwr := { s2.pwr with booted := true } }

/-- The boot ROM starts where a start-up waits for it and RSTN is high (R67, R70). -/
def State.bootStart (s : State) (b : BootIn) : State :=
  if s.pwr.phase == .startup && !s.pwr.booted && !s.pwr.rstnLow then s.boot b else s

def execVbatPowerOn (b : BootIn) (s : State) : Host.Outcome State Fault Refusal :=
  s.done (if s.pwr.phase == .off then
    let s1 := { s with pwr := { s.pwr with phase := .startup }, evSeq := s.evSeq + 1 }
    (if s1.pwr.limpnLow then s1.takeLimp else s1).bootStart b else s)

def execRstnRelease (at_ : Nat) (b : BootIn) (s : State) : Host.Outcome State Fault Refusal :=
  let s0 := s.atPhase at_
  s.done ({ s0 with pwr := { s0.pwr with rstnLow := false } }.bootStart b)

def execBootRomStart (at_ : Nat) (b : BootIn) (s : State) : Host.Outcome State Fault Refusal :=
  s.done ((s.atPhase at_).bootStart b)

/-! ### Resets -/

/-- RSTN acts as a warm cause: not in Cellar, in Park only with VIO (R82), and not before the boot ROM of
a power-on start (R70). -/
def State.rstnActs (s : State) : Bool :=
  match s.pwr.phase with
  | .run => true
  | .startup => s.pwr.booted || !s.pwr.powerOn
  | .park => s.supply.vioOk
  | _ => false

/-- A low level on RSTN that the filter lets through (R67). -/
def State.rstnFell (s : State) : State :=
  let s1 := { s with pwr := { s.pwr with rstnLow := true } }
  if s.rstnActs then s1.warmReset 2 else s1

/-- A low pulse of `ns` on RSTN: below 200 ns ignored, from 1 µs on a warm reset, between them either
(R67). -/
def State.rstnPulse (s : State) (ns : Nat) : State :=
  if ns < 200 then s
  else if 1000 ≤ ns then s.rstnFell
  else
    let r := s.fresh
    if bit r.1 0 then r.2.rstnFell else r.2

def execRstnLowPulse (at_ ns : Nat) (s : State) : Host.Outcome State Fault Refusal :=
  s.done ((s.atPhase at_).rstnPulse ns)

def execBrownOut (at_ : Nat) (s : State) : Host.Outcome State Fault Refusal :=
  let s0 := s.atPhase at_
  s.done (if s0.pwr.phase == .off then s0 else s0.powerReset)

/-- A rail out of regulation while present: power-on reset with RAIL set and POR clear (R65, R66). -/
def execRailFault (at_ : Nat) (s : State) : Host.Outcome State Fault Refusal :=
  let s0 := s.atPhase at_
  s.done (match s0.pwr.phase with
    | .run | .startup | .park =>
        let t := s0.powerReset
        { t with pwr := { t.pwr with phase := .startup, rstCause := 2 } }
    | _ => s0)

/-- `n` press ticks pass without a racking: nothing services the watchdog (R68). -/
def State.missTicks (s : State) (n : Nat) : State :=
  { s with
    clk := { s.clk with tickNs := if n = 0 then s.clk.tickNs else max (s.clk.tickNs + n * s.period) s.now
                        phase := if n = 0 then s.clk.phase else 0, tickCount := (s.clk.tickCount + n) % 2 ^ 32 }
    pwr := { s.pwr with wdgMissed := s.pwr.wdgMissed + n } }

/-- The command engine has not racked in w.ticks press ticks: at the TIMEOUT-th since the latest service the
watchdog expires (R68, log 58). -/
def execWatchdogExpiry (w : MissIn) (s : State) : Host.Outcome State Fault Refusal :=
  let s0 := s.atPhase w.at_
  s.done (if s0.inRun then
      let s1 := s0.missTicks (min w.ticks (s0.cfg 0x40000010 0 7 - s0.pwr.wdgMissed))
      if s0.cfg 0x40000010 0 7 ≤ s1.pwr.wdgMissed then s1.faultReset 0x01 3 false else s1
    else s0)

def execCeLockstepMismatch (at_ : Nat) (s : State) : Host.Outcome State Fault Refusal :=
  let s0 := s.atPhase at_
  s.done (if s0.running then s0.faultReset 0x00 4 true else s0)

/-- The PLL loses lock while its reference is inside tolerance (R98). -/
def execPllUnlock (at_ : Nat) (s : State) : Host.Outcome State Fault Refusal :=
  let s0 := s.atPhase at_
  s.done (if s0.running && s0.clk.pllLock then s0.faultReset 0x03 4 true else s0)

/-! ### Fail-over (R97-R100) -/

/-- One monitor window is compared with the expected count of XCLK_SEL (R97). -/
def Clk.window (c : Clk) (count : Nat) : Clk :=
  let bad := windowFails c.xclkSel count
  { c with lastCount := min count 1023, failWin := if bad then satInc c.failWin 255 else c.failWin
           xclkOk := !bad && !c.badWin, badWin := bad }
/-- The windows since the previous event, oldest first, up to the second of two consecutive failing ones;
the flag tells that there were two (R97). -/
def Clk.windows : List Nat → Clk → Clk × Bool
  | [], c => (c, false)
  | w :: r, c => if c.badWin && windowFails c.xclkSel w then (c.window w, true) else Clk.windows r (c.window w)

/-- Two consecutive failing windows: the fail-over begins (R97). -/
def State.failOverStart (s : State) : State :=
  let c := s.clk
  let s1 := { s with
    clk := { c with failOver := true, rampDir := 1, slipDue := true, slipSum := 0 }
    tim := { s.tim with tb0Rc := true, rcSeen := true, rcAt := some s.now }
    pwr := { s.pwr with nmi := true } }
  (s1.canHalt.linHalt.t1sHalt.nmHalt).fault 0x02 0

def execXclkFailure (at_ : Nat) (counts : List Nat) (s : State) : Host.Outcome State Fault Refusal :=
  let s0 := s.atPhase at_
  s.done (if s0.inRun && !s0.clk.failOver && s0.clk.src == 1 then
    let r := s0.clk.windows counts
    let s1 := { s0 with clk := r.1 }
    if r.2 then s1.failOverStart else s1
    else s0)

/-- The divider of the PLL-derived domains doubles to 8, or halves back to its working value (R100). -/
def Clk.divide (c : Clk) : Clk :=
  match c.rampDir with
  | 1 => if c.rampExp < 3 then { c with rampExp := c.rampExp + 1, pllLock := c.pllLock && decide (c.rampExp < 2) } else c
  | 2 => if 1 < c.rampExp then { c with rampExp := c.rampExp - 1 }
         else { c with rampExp := 0, rampDir := 0, src := if c.failOver then 2 else c.src }
  | _ => c

def execDividerStep (at_ : Nat) (s : State) : Host.Outcome State Fault Refusal :=
  let s0 := s.atPhase at_
  s.done { s0 with clk := s0.clk.divide }

def execPllRelockRc (at_ : Nat) (s : State) : Host.Outcome State Fault Refusal :=
  let s0 := s.atPhase at_
  s.done (if s0.clk.failOver && s0.clk.rampDir == 1 && s0.clk.rampExp == 3
    then { s0 with clk := { s0.clk with pllLock := true, rampDir := 2 } } else s0)

/-! ### Supply monitors (R61, R62, R65) -/

/-- The device is powered and holds its outputs off in a hold-off: Run, start-up, Park. -/
def State.powered (s : State) : Bool := s.running || s.pwr.phase == .park

/-- The LF drivers are held off: a challenge in progress can only end with SUPPLY (R61, R381). -/
def State.lfHold (s : State) : State :=
  { s with acc := { s.acc with challenge := s.acc.challenge.map (fun c => { c with supply := true }) } }

def State.lowEntry (s : State) : State :=
  if s.supply.low then s
  else
    let s1 := { s.sweepPorts.sweepLoads.lfHold with supply := { s.supply with low := true, lowSeen := s.supply.lowSeen || s.powered, lowAt := some s.now } }.boostHold.protPends
    if s.powered then s1.fault 0x04 0 else s1

def State.ovEntry (s : State) : State :=
  if s.supply.ov then s
  else
    let s1 := { s.sweepLoads.lfHold with supply := { s.supply with ov := true, ovSeen := s.supply.ovSeen || s.powered, ovAt := some s.now } }.boostHold.protPends
    if s.powered then s1.fault 0x05 0 else s1

/-- At or after the start of the frame's diagnostic window (R110). -/
def State.pastWindow (s : State) : Bool := decide (s.period ≤ 20 * s.clk.phase)

/-- A comparator has left its region: with none left the hold-off ends, and the outputs return at the
next racking (R62); in Park, where there is no racking, at once. -/
def State.holdOffEnds (s : State) : State :=
  if s.supply.low || s.supply.ov then s
  else { s with supply := { s.supply with relDue := s.running } }.boostUnhold

def execLowSupplyEntry (at_ : Nat) (s : State) : Host.Outcome State Fault Refusal := s.done (s.atPhase at_).lowEntry
def execOvervoltageEntry (at_ : Nat) (s : State) : Host.Outcome State Fault Refusal := s.done (s.atPhase at_).ovEntry

def execLowSupplyEnd (at_ : Nat) (s : State) : Host.Outcome State Fault Refusal :=
  let s0 := s.atPhase at_
  s.done (if s0.supply.low then
    { s0.sweepPorts.sweepLoads with supply := { s0.supply with low := false, lowWin := s0.supply.lowWin || s0.pastWindow } }.holdOffEnds else s0)

def execOvervoltageEnd (at_ : Nat) (s : State) : Host.Outcome State Fault Refusal :=
  let s0 := s.atPhase at_
  s.done (if s0.supply.ov then
    { s0.sweepLoads with supply := { s0.supply with ov := false, ovWin := s0.supply.ovWin || s0.pastWindow } }.holdOffEnds else s0)

/-- VIO falls below 2.7 V: VIO_OK clears and the host link stops; nothing is reset (R65). -/
def execVioLow (at_ : Nat) (s : State) : Host.Outcome State Fault Refusal :=
  let s0 := s.atPhase at_
  s.done (if s0.supply.vioOk then
      let s1 := { s0 with supply := { s0.supply with vioOk := false }, link := { s0.link with vioLost := true } }
      if s0.running then s1.fault 0x07 0 else s1
    else s0)

def execVioRestored (at_ : Nat) (s : State) : Host.Outcome State Fault Refusal :=
  let s0 := s.atPhase at_
  s.done { s0 with supply := { s0.supply with vioOk := true } }

/-! ### The lease and the limp pattern -/

/-- Every present channel whose gate is on is noted as on in this frame. -/
def State.noteGates (s : State) : State := s.forEach s.loads State.noteGate

def execHoldLeaseExpiry (at_ : Nat) (s : State) : Host.Outcome State Fault Refusal :=
  let s0 := s.atPhase at_
  s.done (if s0.pwr.holdState = 1 && s0.pwr.leaseEnd.any (fun t => decide (t ≤ s0.now))
    then s0.sweepLoads.endLease.noteGates else s0)

/-- LIMPN has been low for 5 µs (R79); in Cellar the pattern does not apply. -/
def execLimpnAsserted (at_ : Nat) (s : State) : Host.Outcome State Fault Refusal :=
  let s0 := s.atPhase at_
  s.done (
    if !s0.powered then { s0 with pwr := { s0.pwr with limpnLow := true } }
    else if s0.pwr.limpActive then s0 else s0.sweepLoads.takeLimp.noteGates)

/-- LIMPN has been high for 1 ms: keepers take their channels at once, the commands at the next racking
(R80); before the first press tick the forced safe state takes the others (R70). -/
def execLimpnReleased (at_ : Nat) (s : State) : Host.Outcome State Fault Refusal :=
  let s0 := s.atPhase at_
  s.done { s0.sweepLoads with pwr := { s0.pwr with limpnLow := false, limpActive := false,
                                                   limpRel := s0.pwr.limpRel || (s0.pwr.limpActive && s0.inRun) } }

end Sys2Proof.Machine
end

