-- ==== Sys2Proof/Machine/Host.lean ====
section
/-! DEFINITION. The command engine: execution of every opcode (R146, R160), the power, PEEK and POKE
commands (R148, R149, R76, R83), host commands, deferred commands and applet requests (R142-R144, R157),
the SPI transactions of HOSTLINK (R119-R133), and the loss monitor's events (R135). -/

namespace Sys2Proof.Machine

/-! ### Power commands (R148) -/

/-- HOLD_CONFIRM: every reached channel that a keeper or a loss action holds passes back (R76, R137). -/
def runHoldConfirm (x : Ctx) (s : State) : State × Out :=
  let us := (s.unitSet x.cmd.node).filter (fun u => nodeKind u == some .load)
  let ns := (us.map lcOf).filter (fun n => (s.ch n).keeper.held || (s.ch n).lossHeld)
  (s.forEach ns State.passBack, outWords [w32 ns.length])

/-- BLOCK_RESET: the engine writes SYSCTL_BLOCK_RST with code 0xB5 (R69, R148). -/
def runBlockReset (x : Ctx) (s : State) : State × Out :=
  ((s.busWrite ⟨3, 1, 2⟩ 0x4000000C (w32 (pf x.cmd 2 0 5 + 0xB500))).1, outWords [])

/-- ENTER_PARK and ENTER_CELLAR: the ask step begins, with the references of the wake inputs (R83, R264). -/
def runEnter (cellar : Bool) (x : Ctx) (s : State) : State × Option Out :=
  if s.pwr.entry.isSome then (s, some { outWords [s.pwrStat] with status := 0x21 })
  else if !s.eng.outstRoom then (s, some { outWords [s.pwrStat] with status := 0x30 })
  else
    let e : Entry := { cellar := cellar, step := 1, since := s.now, ticket := s.eng.nextTicket, granted := []
                       drained := false, okReply := 0, took := [] }
    let s1 := s.takeReferences
    (({ s1 with pwr := { s1.pwr with entry := some e } }).addOutst x.op x.cmd .entry, none)

/-! ### PEEK and POKE (R149) -/

/-- Reads at successive addresses until one ends with a bus error. -/
def State.peeks (sz : Nat) : Nat → Nat → State → State × List Word × BusRes
  | 0, _, s => (s, [], .ok)
  | n + 1, a, s =>
      match s.busRead ⟨3, 0, sz⟩ a .clean with
      | (t, w, .ok) =>
          let r := State.peeks sz n (a + sizeBytes sz) t
          (r.1, w :: r.2.1, r.2.2)
      | (t, _, e) => (t, [], e)
/-- Writes at successive addresses: those done, and how the last ended. -/
def State.pokes (sz : Nat) : List Word → Nat → State → State × Nat × BusRes
  | [], _, s => (s, 0, .ok)
  | v :: r, a, s =>
      match s.busWrite ⟨3, 1, sz⟩ a v with
      | (t, .ok) =>
          let q := State.pokes sz r (a + sizeBytes sz) t
          (q.1, q.2.1 + 1, q.2.2)
      | (t, e) => (t, 0, e)
/-- Status of a PEEK or POKE (R21, R37). -/
def busStatus (r : BusRes) : Nat := match r with | .ok => 0 | .error => 0x14 | .absent => 0x23

def runPeek (x : Ctx) (s : State) : State × Out :=
  let r := State.peeks (2 - pf x.cmd 3 8 2) (pf x.cmd 3 0 5) (pw x.cmd 2).toNat s
  (r.1, { outWords (w32 r.2.1.length :: r.2.1) with status := busStatus r.2.2 })
def runPoke (x : Ctx) (s : State) : State × Out :=
  let r := State.pokes (2 - pf x.cmd 3 8 2) ((x.cmd.payload.drop 2).take (pf x.cmd 3 0 5)) (pw x.cmd 2).toNat s
  (r.1, { outWords [w32 r.2.1] with status := busStatus r.2.2 })

/-! ### Every opcode (R146) -/

/-- A command that answers at the racking at which it executes. -/
def now_ (r : State × Out) : State × Option Out := (r.1, some r.2)

/-- Execution of an opcode: the state after it, and its outcome unless it is answered at a later racking
(R144). -/
def runCommand (x : Ctx) (s : State) : State × Option Out :=
  match x.op with
  | 0x00 => now_ (runNop x s)
  | 0x01 => now_ (runPing x s)
  | 0x02 => now_ (runGetStatus x s)
  | 0x03 => now_ (runGetFeatures x s)
  | 0x04 => now_ (runCancel x s)
  | 0x10 => now_ (runVatOpen x s)
  | 0x11 => now_ (runVatWrite x s)
  | 0x12 => runVatCheck x s
  | 0x13 => runVatBottle x s
  | 0x14 => now_ (runVatDiscard x s)
  | 0x15 => now_ (runVatRead x s)
  | 0x16 => runVatStore x s
  | 0x17 => now_ (runVatLoad x s)
  | 0x18 => now_ (runCaskDefine x s)
  | 0x19 => now_ (runCaskDelete x s)
  | 0x1A => now_ (runCaskList x s)
  | 0x20 => now_ (runSetOut x s)
  | 0x21 => now_ (runSetDuty x s)
  | 0x22 => now_ (runSetPhase x s)
  | 0x23 => now_ (runPulse x s)
  | 0x24 => now_ (runClearLatch x s)
  | 0x28 => now_ (runValveFire x s)
  | 0x29 => now_ (runValveHold x s)
  | 0x2A => now_ (runValveRelease x s)
  | 0x30 => now_ (runReadInputs x s)
  | 0x31 => now_ (runReadDiag x s)
  | 0x32 => now_ (runReadSense x s)
  | 0x33 => runWatchInputs x s
  | 0x38 => now_ (runFieldSet x s)
  | 0x39 => now_ (runFieldRead x s)
  | 0x40 => now_ (runCanTx x s)
  | 0x41 => now_ (runCanRead x s)
  | 0x42 => now_ (runCanCtrl x s)
  | 0x43 => now_ (runLinTx x s)
  | 0x44 => now_ (runLinRead x s)
  | 0x45 => now_ (runLinSched x s)
  | 0x46 => now_ (runLinCtrl x s)
  | 0x48 => now_ (runT1sTx x s)
  | 0x49 => now_ (runTimeGet x s)
  | 0x4A => now_ (runTsqRead x s)
  | 0x4B => now_ (runTimeAdjust x s)
  | 0x4C => now_ (runT1sRead x s)
  | 0x4D => now_ (runT1sCtrl x s)
  | 0x50 => now_ (runNmRequestSleep x s)
  | 0x51 => now_ (runNmStayAwake x s)
  | 0x52 => now_ (runNmStatus x s)
  | 0x58 => now_ (runAccStatus x s)
  | 0x59 => runAccChallenge x s
  | 0x5A => runAccEnrol x s
  | 0x5B => now_ (runAccDealerCode x s)
  | 0x5C => runAccRevoke x s
  | 0x5D => now_ (runAccSessionEnd x s)
  | 0x60 => runAppletLoad x s
  | 0x61 => now_ (runAppletStart x s)
  | 0x62 => now_ (runAppletStop x s)
  | 0x63 => now_ (runAppletStatus x s)
  | 0x64 => now_ (runAppletPrecede x s)
  | 0x65 => runAppletUnload x s
  | 0x70 => now_ (runFaultStatus x s)
  | 0x71 => now_ (runFaultCapture x s)
  | 0x72 => now_ (runFaultClear x s)
  | 0x73 => now_ (runFaultNotify x s)
  | 0x74 => runFaultTest x s
  | 0x78 => runEnter false x s
  | 0x79 => runEnter true x s
  | 0x7A => now_ (runHoldConfirm x s)
  | 0x7B => now_ (runBlockReset x s)
  | 0x7E => now_ (runPeek x s)
  | 0x7F => now_ (runPoke x s)
  | _ => (s, some (outStatus 0x12))

/-- Stage 1 of R160, then the command: a target that no longer stands is answered BAD_NODE (R153). A vat
or cask command so refused still restarts the vat lease (R167). -/
def State.execute (s : State) (x : Ctx) : State × Option Out :=
  if s.targetStands x.op x.cmd then runCommand x s
  else (if 0x10 ≤ x.op ∧ x.op ≤ 0x1A then s.restartLease else s, some (outStatus 0x13))

/-- The unit actions of a command that executes: one per unit reached, or its count (R113). -/
def State.actionsOf (s : State) (op : Nat) (c : HostCmd) : Nat :=
  if op = 0x13 then 140
  else if nodeKind c.node = some .cask ∨ (c.node = 0 ∧ rootReaches op) then (s.unitSet c.node).length
  else chargeOf op c
/-- A command of the racking is counted with its unit actions (R113). -/
def State.noteActions (s : State) (n : Nat) : State :=
  { s with eng := { s.eng with rackCmds := s.eng.rackCmds + 1, rackActs := s.eng.rackActs + n } }

/-- A host command executes and is answered, unless its answer comes at a later racking or it brought a
reset about. -/
def State.hostRun (s : State) (op : Nat) (c : HostCmd) : State :=
  let r := s.execute ⟨op, c, none⟩
  match r.2 with
  | some o => if r.1.inRun then r.1.respond op c o true else r.1
  | none => r.1

/-- A place of the queue: a command executes, or a deferred one is acknowledged with QUEUED and joins the
deferral store (R143). -/
def State.runQueued (s : State) (q : QCmd) : State :=
  if q.ack then
    let d : Deferred := { cmd := { q with ack := false }, left := cLater q.cmd }
    let t := s.noteActions 1
    { t with eng := { t.eng with deferred := t.eng.deferred ++ [d] } }.respond q.op q.cmd (outStatus 0x01) false
  else (s.noteActions (s.actionsOf q.op q.cmd)).hostRun q.op q.cmd

/-- The oldest deferred command whose named racking is the present one executes (R143). -/
def State.runDeferred (s : State) : State :=
  match s.eng.deferred.find? (fun d => d.left == 0) with
  | some d =>
      let t := s.noteActions (s.actionsOf d.cmd.op d.cmd.cmd)
      { t with eng := { t.eng with deferred := t.eng.deferred.eraseP (fun e => e.left == 0) } }.hostRun d.cmd.op d.cmd.cmd
  | none => s

/-- An applet request executes; its outcome goes to the slot, where it is still started (R157, R425). -/
def State.runRequest (s : State) (q : QCmd) : State :=
  match q.slot with
  | none => s
  | some i =>
      let r := (s.noteActions (s.actionsOf q.op q.cmd)).execute ⟨q.op, q.cmd, some i⟩
      match r.2 with
      | none => r.1
      | some o =>
          let sets := o.sets.map (fun (x : Nat × Nat × Bool) =>
            ({ node := x.1, kind := x.2.1, byHost := false, reply := 0, pend := x.2.2 } : RackSet))
          let t := { r.1 with eng := { r.1.eng with rackSets := r.1.eng.rackSets ++ sets } }
          let res : AppResult := ⟨o.status, o.acted, o.lost, q.op⟩
          if (t.slot i).st == .started then
            t.updSlot i (fun a => { a with
              results := a.results ++ [(q.req, res)]
              lostCnt := if 0 < o.lost then satInc a.lostCnt 255 else a.lostCnt })
          else t

/-! ### Transactions -/

/-- The link carries transactions: Run, past the first racking, with VIO (R65, R70). -/
def State.linkUp (s : State) : Bool := s.inRun && !s.pwr.woken && s.supply.vioOk

def State.updLink (s : State) (f : Link → Link) : State := { s with link := f s.link }

/-- The sequence advances to a packet (R124). -/
def State.advance (s : State) (seq : Nat) : State :=
  s.updLink (fun l => { l with fresh := false, lastSeq := seq, expect := (seq + 1) % 256 })

/-- Fields of a packet as received; words that did not arrive read 0. -/
def packetOf (words : List Word) : HostCmd :=
  let w0 := words[0]?.getD 0
  let w1 := words[1]?.getD 0
  { seq := bits w0 16 8, node := bits w1 16 16, flags := bits w1 0 16
    payload := (words.drop 2).take (bits w0 0 8) }

/-- Check 7 of R125: a place and room in the queue; for a deferred command a place with a charge of 1 and
a free deferral entry (R25, R143). -/
def State.queueAccepts (s : State) (op : Nat) (c : HostCmd) : Bool :=
  if cLater c = 0 then s.eng.room s.lateInFrame (chargeOf op c)
  else s.eng.room s.lateInFrame 1 && decide (s.eng.deferUsed < 32)

/-- Checks 3 to 7 of R125 on a packet with a good CRC. -/
def State.accept (s : State) (op : Nat) (c : HostCmd) : State :=
  let s0 := s.updLink (fun l => { l with errRun := 0 })
  if !s.link.fresh && c.seq != s.link.expect then
    (s0.updLink (fun l => { l with errSeq := satInc l.errSeq 255 })).refuse op c 0x11
  else
    let s1 := s0.validTraffic
    match s1.arrivalStatus op c with
    | some st => (s1.advance c.seq).refuse op c st
    | none =>
        if s1.queueAccepts op c then
          let t := s1.advance c.seq
          { t with eng := t.eng.push s1.lateInFrame ⟨op, c, chargeOf op c, cLater c != 0, none, 0⟩ }
        else (s1.updLink (fun l => { l with errBusy := satInc l.errBusy 255 })).refuse op c 0x30

/-- A command transaction of at least one complete word (R125, R133). `idle`: the HCLK timeout ended it,
which counts it elsewhere (R119). -/
def State.packet (s : State) (words : List Word) (idle : Bool) : State :=
  let w0 := words[0]?.getD 0
  let c := packetOf words
  let op := bits w0 8 8
  let n := 3 + bits w0 0 8
  if !s.link.held.isEmpty || decide (s.rxFree < 4 * words.length) then
    (s.updLink (fun l => { l with errOverrun := satInc l.errOverrun 255 })).faults [plainEvent 0x15 0]
  else if words.length ≠ n then
    let t := if idle then s
      else (s.updLink (fun l => { l with errFraming := satInc l.errFraming 255 })).errorTransaction
    t.refuse op c 0x10
  else if crc32 (words.take (n - 1)) != words[n - 1]?.getD 0 then
    let t := if idle then s
      else ((s.updLink (fun l => { l with errCrc := satInc l.errCrc 255 })).errorTransaction).faults [plainEvent 0x14 0]
    if t.inRun then t.refuse op c 0x10 else t
  else s.accept op c

/-- A packet that arrives during drain abandons the entry with cause HOST (R85) and is recorded as source 6
(R89, R91). `rec_` forms the last-wake record. -/
def wakeRecord (s : State) (codes : List Nat) (index state_ : Nat) : Word :=
  let low := codes.foldl min (codes.head?.getD 0)
  let st := match s.pwr.entry with | some e => e.step | none => 0
  w32 (place low 0 4 + place (if low = 1 then index else 0) 8 6 + place state_ 16 3 + place st 20 2 +
    place (codes.foldl (fun a c => a ||| (1 <<< (c - 1))) 0) 24 7)

/-- An entry in progress is abandoned with a cause (R84-R86). Past the ask step the loss monitor is armed
again, HRDYN falls at the next press tick, and channels taken at hand-over return at the next racking. -/
def State.abandon (s : State) (cause refuser : Nat) : State :=
  match s.pwr.entry with
  | none => s
  | some e =>
      let past := decide (2 ≤ e.step)
      let s1 := { s with
       clk := { s.clk with rampDir := if e.step = 3 then 2 else s.clk.rampDir }
       pwr := { s.pwr with
        entry := none, abandon := cause, refuser := refuser, resumeDue := past, handBack := e.took } }
      if past then
        s1.updLink (fun l => { l with lossState := if s.lossEnabled then 1 else 0, silentFrom := s.now })
      else s1

/-- An abandonment by a wake writes the last-wake record (R91). -/
def State.wakeAbandon (s : State) (cause : Nat) (codes : List Nat) (index : Nat) : State :=
  match s.pwr.entry with
  | none => s
  | some e =>
      let w := wakeRecord s codes index (if e.cellar then 2 else 0)
      let s1 := s.abandon cause 0
      { s1 with pwr := { s1.pwr with wakeRec := w, wakeTime := 0 } }

/-- An entry in its drain step. -/
def State.draining (s : State) : Bool := match s.pwr.entry with | some e => e.step == 2 | none => false

/-- Words follow on HMISO. -/
def State.drive (s : State) (l : List Word) : State := s.updLink (fun k => { k with miso := k.miso ++ l })

/-- Replies shifted out of `n` words: each whole one is removed, held replies move up (R129, R133). The
words left over belong to the reply in progress; behind the last reply 0x0000_0000 follows. -/
def State.shiftOut : Nat → Nat → State → State × Nat
  | 0, n, s => (s, n)
  | fuel + 1, n, s =>
      match s.link.replies with
      | [] => (s.drive (List.replicate n 0), 0)
      | r :: rest =>
          if replyLen r ≤ n then
            State.shiftOut fuel (n - replyLen r) ((s.updLink (fun l => { l with replies := rest })).drive (replyWords r)).moveHeld
          else (s.drive ((replyWords r).take n), n)

/-- A reply-read transaction of `words` complete words, at least one (R120, R129). -/
def State.readReplies (s : State) (words : Nat) : State :=
  let r := State.shiftOut words (words - 1) s.validTraffic
  if r.2 = 0 then r.1 else r.1.updLink (fun l => { l with reread := satInc l.reread 255 })

/-- An invalid transaction, or one with word 0 incomplete: FRAMING (R120, R139). -/
def State.invalid (s : State) (idle : Bool) : State :=
  if idle then s else (s.updLink (fun l => { l with errFraming := satInc l.errFraming 255 })).errorTransaction

/-- What the first word makes of a transaction (R120). -/
def State.transaction (s : State) (first : Option Word) (words : List Word) (n : Nat) (idle : Bool) : State :=
  match first with
  | none => s.invalid idle
  | some w =>
      let fill := List.replicate (n - 1) 0
      if bits w 24 8 = 0xA5 then
        ((if s.draining then s.wakeAbandon 5 [6] 0 else s).drive fill).packet words idle
      else if w = 0x5A000000 then s.readReplies n
      else (s.drive fill).invalid idle

/-- A transaction with its SPI mode (R117): the status word of the state that it finds is word 0 on HMISO
(R120, R121), and HCSN rises at its end. Without VIO the link stands (R65). -/
def State.spi (s : State) (mode3 : Bool) (f : State → State) : State :=
  if s.linkUp then f (s.updLink (fun l => { l with mode3 := mode3, hcsnLow := false, miso := [s.statusWord] })) else s

def execCommandTransaction (at_ : Nat) (words : List Word) (mode3 : Bool) (s : State) :
    Host.Outcome State Fault Refusal :=
  s.done ((s.atPhase at_).spi mode3 (fun t => t.transaction words.head? words words.length false))

def execReplyReadTransaction (at_ : Nat) (first : Word) (words : Nat) (mode3 : Bool) (s : State) :
    Host.Outcome State Fault Refusal :=
  s.done ((s.atPhase at_).spi mode3 (fun t =>
    t.transaction (if words = 0 then none else some first) (first :: List.replicate (words - 1) 0) words false))

def execInvalidTransaction (at_ : Nat) (first : Option Word) (mode3 : Bool) (s : State) :
    Host.Outcome State Fault Refusal :=
  s.done ((s.atPhase at_).spi mode3 (fun t => t.transaction first first.toList first.toList.length false))

/-- The HCLK timeout: what arrived is taken as a transaction that ended there, and IDLE_ABORT and the run
of errors count it (R119, R135); HCSN is still low. -/
def execHclkIdleAbort (at_ : Nat) (words : List Word) (mode3 : Bool) (s : State) :
    Host.Outcome State Fault Refusal :=
  s.done ((s.atPhase at_).spi mode3 (fun t =>
    ((t.transaction words.head? words words.length true).updLink (fun l =>
      { l with idleAbort := satInc l.idleAbort 255, hcsnLow := true })).errorTransaction))

def execHeldReplyPosted (at_ : Nat) (s : State) : Host.Outcome State Fault Refusal :=
  s.done (s.atPhase at_).moveHeld

def execDeferredCommandDue (at_ : Nat) (s : State) : Host.Outcome State Fault Refusal :=
  let s0 := s.atPhase at_
  s.done (if s0.inRun then s0.runDeferred else s0)

/-! ### The loss monitor (R135, R136, R138) -/

/-- Step 1 of a frame, which ends 1 µs after the tick at the latest (R112). -/
def State.inStep1 (s : State) : Bool := decide (s.clk.phase ≤ 100)
/-- The monitor enters Lost for one cause at step 1, and the loss actions act in the racking that follows,
unless the reaction to HOST_LOSS resets the device (R135, R136). -/
def State.loseHost (s : State) (cause : Nat) : State :=
  if s.inRun && s.inStep1 && s.lossCause == cause then
    (s.sweepLoads.enterLost cause).andRun (fun t => t.lossActions.noteGates) else s

def execHostLossTimeout (at_ : Nat) (s : State) : Host.Outcome State Fault Refusal :=
  s.done ((s.atPhase at_).loseHost 1)
def execHostLossErrLimit (at_ : Nat) (s : State) : Host.Outcome State Fault Refusal :=
  s.done ((s.atPhase at_).loseHost 2)

/-! ### Rows: host commands -/

/-- A host command as at the present racking: the arrival checks 4 to 6 of R125, then its execution. It
needs a device in Run. -/
def State.hostRow (s : State) (op : Nat) (c : HostCmd) : State :=
  if s.inRun && !s.pwr.woken then
    match s.arrivalStatus op c with
    | some st => s.refuse op c st
    | none => s.hostRun op c
  else s
/-- The packet with the OPT that names a form of its opcode. -/
def withOpt (c : HostCmd) (opt : Nat) : HostCmd := { c with flags := c.flags % 4096 + 4096 * opt }

def execNop (c : HostCmd) (s : State) : Host.Outcome State Fault Refusal := s.done (s.hostRow 0x00 c)
def execPing (c : HostCmd) (s : State) : Host.Outcome State Fault Refusal := s.done (s.hostRow 0x01 c)
def execGetStatus (c : HostCmd) (s : State) : Host.Outcome State Fault Refusal := s.done (s.hostRow 0x02 c)
def execGetFeatures (c : HostCmd) (s : State) : Host.Outcome State Fault Refusal := s.done (s.hostRow 0x03 c)
def execCancel (c : HostCmd) (s : State) : Host.Outcome State Fault Refusal := s.done (s.hostRow 0x04 c)
def execVatOpen (c : HostCmd) (s : State) : Host.Outcome State Fault Refusal := s.done (s.hostRow 0x10 c)
def execVatWrite (c : HostCmd) (s : State) : Host.Outcome State Fault Refusal := s.done (s.hostRow 0x11 c)
def execVatCheck (c : HostCmd) (s : State) : Host.Outcome State Fault Refusal := s.done (s.hostRow 0x12 c)
def execVatBottle (c : HostCmd) (s : State) : Host.Outcome State Fault Refusal := s.done (s.hostRow 0x13 c)
def execVatDiscard (c : HostCmd) (s : State) : Host.Outcome State Fault Refusal := s.done (s.hostRow 0x14 c)
def execVatRead (c : HostCmd) (s : State) : Host.Outcome State Fault Refusal := s.done (s.hostRow 0x15 c)
def execVatStore (c : HostCmd) (s : State) : Host.Outcome State Fault Refusal := s.done (s.hostRow 0x16 c)
def execVatLoad (c : HostCmd) (s : State) : Host.Outcome State Fault Refusal := s.done (s.hostRow 0x17 c)
def execCaskDefine (c : HostCmd) (s : State) : Host.Outcome State Fault Refusal := s.done (s.hostRow 0x18 c)
def execCaskDelete (c : HostCmd) (s : State) : Host.Outcome State Fault Refusal := s.done (s.hostRow 0x19 c)
def execCaskList (c : HostCmd) (s : State) : Host.Outcome State Fault Refusal := s.done (s.hostRow 0x1A c)
def execSetOut (c : HostCmd) (s : State) : Host.Outcome State Fault Refusal := s.done (s.hostRow 0x20 c)
def execSetDuty (c : HostCmd) (s : State) : Host.Outcome State Fault Refusal := s.done (s.hostRow 0x21 c)
def execSetPhase (c : HostCmd) (s : State) : Host.Outcome State Fault Refusal := s.done (s.hostRow 0x22 c)
def execPulse (c : HostCmd) (s : State) : Host.Outcome State Fault Refusal := s.done (s.hostRow 0x23 c)
def execClearLatch (c : HostCmd) (s : State) : Host.Outcome State Fault Refusal := s.done (s.hostRow 0x24 c)
def execValveFire (c : HostCmd) (s : State) : Host.Outcome State Fault Refusal := s.done (s.hostRow 0x28 c)
def execValveHold (c : HostCmd) (s : State) : Host.Outcome State Fault Refusal := s.done (s.hostRow 0x29 c)
def execValveRelease (c : HostCmd) (s : State) : Host.Outcome State Fault Refusal := s.done (s.hostRow 0x2A c)
def execReadInputs (c : HostCmd) (s : State) : Host.Outcome State Fault Refusal := s.done (s.hostRow 0x30 c)
def execReadDiag (c : HostCmd) (s : State) : Host.Outcome State Fault Refusal := s.done (s.hostRow 0x31 c)
def execReadSense (c : HostCmd) (s : State) : Host.Outcome State Fault Refusal := s.done (s.hostRow 0x32 c)
def execFieldSet (c : HostCmd) (s : State) : Host.Outcome State Fault Refusal := s.done (s.hostRow 0x38 c)
def execFieldRead (c : HostCmd) (s : State) : Host.Outcome State Fault Refusal := s.done (s.hostRow 0x39 c)
def execCanTx (c : HostCmd) (s : State) : Host.Outcome State Fault Refusal := s.done (s.hostRow 0x40 c)
def execCanRead (c : HostCmd) (s : State) : Host.Outcome State Fault Refusal := s.done (s.hostRow 0x41 c)
def execCanCtrl (c : HostCmd) (s : State) : Host.Outcome State Fault Refusal := s.done (s.hostRow 0x42 c)
def execLinTx (c : HostCmd) (s : State) : Host.Outcome State Fault Refusal := s.done (s.hostRow 0x43 c)
def execLinRead (c : HostCmd) (s : State) : Host.Outcome State Fault Refusal := s.done (s.hostRow 0x44 c)
def execLinSched (c : HostCmd) (s : State) : Host.Outcome State Fault Refusal := s.done (s.hostRow 0x45 c)
def execLinCtrl (c : HostCmd) (s : State) : Host.Outcome State Fault Refusal := s.done (s.hostRow 0x46 c)
def execT1sTx (c : HostCmd) (s : State) : Host.Outcome State Fault Refusal := s.done (s.hostRow 0x48 c)
def execTimeGet (c : HostCmd) (s : State) : Host.Outcome State Fault Refusal := s.done (s.hostRow 0x49 c)
def execTsqRead (c : HostCmd) (s : State) : Host.Outcome State Fault Refusal := s.done (s.hostRow 0x4A c)
def execTimeAdjust (c : HostCmd) (s : State) : Host.Outcome State Fault Refusal := s.done (s.hostRow 0x4B c)
def execT1sRead (c : HostCmd) (s : State) : Host.Outcome State Fault Refusal := s.done (s.hostRow 0x4C c)
def execT1sCtrl (c : HostCmd) (s : State) : Host.Outcome State Fault Refusal := s.done (s.hostRow 0x4D c)
def execNmRequestSleep (c : HostCmd) (s : State) : Host.Outcome State Fault Refusal := s.done (s.hostRow 0x50 c)
def execNmStayAwake (c : HostCmd) (s : State) : Host.Outcome State Fault Refusal := s.done (s.hostRow 0x51 c)
def execNmStatus (c : HostCmd) (s : State) : Host.Outcome State Fault Refusal := s.done (s.hostRow 0x52 c)
def execAccStatus (c : HostCmd) (s : State) : Host.Outcome State Fault Refusal := s.done (s.hostRow 0x58 c)
def execAccChallenge (c : HostCmd) (s : State) : Host.Outcome State Fault Refusal := s.done (s.hostRow 0x59 c)
def execAccEnrol (c : HostCmd) (s : State) : Host.Outcome State Fault Refusal := s.done (s.hostRow 0x5A c)
def execAccDealerCode (c : HostCmd) (s : State) : Host.Outcome State Fault Refusal := s.done (s.hostRow 0x5B c)
def execAccRevoke (c : HostCmd) (s : State) : Host.Outcome State Fault Refusal := s.done (s.hostRow 0x5C c)
def execAccSessionEnd (c : HostCmd) (s : State) : Host.Outcome State Fault Refusal := s.done (s.hostRow 0x5D c)
def execAppletStart (c : HostCmd) (s : State) : Host.Outcome State Fault Refusal := s.done (s.hostRow 0x61 c)
def execAppletStop (c : HostCmd) (s : State) : Host.Outcome State Fault Refusal := s.done (s.hostRow 0x62 c)
def execAppletStatus (c : HostCmd) (s : State) : Host.Outcome State Fault Refusal := s.done (s.hostRow 0x63 c)
def execAppletPrecede (c : HostCmd) (s : State) : Host.Outcome State Fault Refusal := s.done (s.hostRow 0x64 c)
def execAppletUnload (c : HostCmd) (s : State) : Host.Outcome State Fault Refusal := s.done (s.hostRow 0x65 c)
def execFaultStatus (c : HostCmd) (s : State) : Host.Outcome State Fault Refusal := s.done (s.hostRow 0x70 c)
def execFaultCapture (c : HostCmd) (s : State) : Host.Outcome State Fault Refusal := s.done (s.hostRow 0x71 c)
def execFaultClear (c : HostCmd) (s : State) : Host.Outcome State Fault Refusal := s.done (s.hostRow 0x72 c)
def execFaultNotify (c : HostCmd) (s : State) : Host.Outcome State Fault Refusal := s.done (s.hostRow 0x73 c)
def execFaultTest (c : HostCmd) (s : State) : Host.Outcome State Fault Refusal := s.done (s.hostRow 0x74 c)
def execHoldConfirm (c : HostCmd) (s : State) : Host.Outcome State Fault Refusal := s.done (s.hostRow 0x7A c)
def execBlockReset (c : HostCmd) (s : State) : Host.Outcome State Fault Refusal := s.done (s.hostRow 0x7B c)
def execPeek (c : HostCmd) (s : State) : Host.Outcome State Fault Refusal := s.done (s.hostRow 0x7E c)
def execPoke (c : HostCmd) (s : State) : Host.Outcome State Fault Refusal := s.done (s.hostRow 0x7F c)
def execAppletLoadBegin (c : HostCmd) (s : State) : Host.Outcome State Fault Refusal := s.done (s.hostRow 0x60 (withOpt c 0))
def execAppletLoadCode (c : HostCmd) (s : State) : Host.Outcome State Fault Refusal := s.done (s.hostRow 0x60 (withOpt c 1))
def execAppletLoadCommit (c : HostCmd) (s : State) : Host.Outcome State Fault Refusal := s.done (s.hostRow 0x60 (withOpt c 2))

end Sys2Proof.Machine
end

