-- ==== Sys2Proof/Machine/Entry.lean ====
section
/-! DEFINITION. Entering Park and Cellar (R81-R86), Park and its exit (R87, R88, R256, R263, R264, R331,
R361, R461), Cellar, and the wake sources with the last-wake record (R89-R91). -/

namespace Sys2Proof.Machine

/-! ### Ask (R83, R84): 0 grant, 1 delay, 2 refuse -/

/-- Refuse where the first condition holds, else delay where the second does. -/
def ask (refuse delay : Bool) : Nat := if refuse then 2 else if delay then 1 else 0

def State.frameAsk (s : State) : Nat :=
  ask (s.vat.st != .closed) (!s.eng.deferred.isEmpty || (s.eng.rackHost ++ s.eng.qNext ++ s.eng.qAfter).any (·.ack))
def State.linkAsk (s : State) : Nat := ask false (s.link.hcsnLow || !s.link.replies.isEmpty || !s.link.held.isEmpty)
def State.loadAsk (s : State) (cellar : Bool) : Nat :=
  let on := fun n => s.gate n || s.modulating n
  ask (s.loads.any (fun n =>
        if cellar then on n || (s.ch n).keeper.held else if s.holdClass n then s.modulating n else on n))
    (s.loads.any (fun n => (s.ch n).demagAt.isSome || (s.ch n).pend.isSome))
def State.valveAsk (s : State) : Nat :=
  ask (s.valves.any (fun n => match (s.vl n).st with | .off | .release => false | _ => true))
    (s.valves.any (fun n => (s.vl n).st == .release) || s.valve.boost == .discharge)
def State.fieldAsk (s : State) : Nat := ask (s.fios.any (fun n => (s.fio n).gate || (s.fio n).iGate)) false
def State.accAsk (s : State) : Nat := ask s.acc.session.isSome s.acc.challenge.isSome
def isStore (o : Outst) : Bool := match o.wait with | .appletStore _ _ => o.answer.isNone | _ => false
def State.memAsk (s : State) : Nat :=
  ask false (!s.vat.writing.isEmpty || !s.acc.writes.isEmpty || !s.acc.keyWrites.isEmpty ||
    s.eng.outst.any isStore || s.feat.rewriting)
def State.appletAsk (s : State) : Nat := ask ((List.range 8).any (fun i => (s.slot i).st == .started)) false

/-- Every present block's answer, by its REFUSER code, in order. -/
def State.asks (s : State) (cellar : Bool) : List (Nat × Nat) :=
  [(1, ask (cellar && s.pwr.limpnLow) false), (2, s.frameAsk), (3, s.linkAsk), (4, s.loadAsk cellar)] ++
  (if hasBoost s.var then [(5, s.valveAsk)] else []) ++ (if hasField s.var then [(7, s.fieldAsk)] else []) ++
  [(8, s.canAsk), (9, s.linAsk)] ++ (if hasNet s.var then [(10, s.t1sAsk)] else []) ++ [(12, s.nmAsk)] ++
  (if hasAccess s.var then [(13, s.accAsk)] else []) ++ [(15, s.memAsk), (18, s.appletAsk)]

/-- VALVE has granted or delays: the boost discharges and stays off while the entry stands (R226). -/
def State.valveAsked (s : State) (l : List (Nat × Nat)) : State :=
  if l.any (fun a => a.1 == 5 && a.2 != 2) then
    let t := s.boostDischarge
    { t with valve := { t.valve with entryHold := true } }
  else s

/-- The entry command is answered at this racking with a status and SYSCTL_PWR_STAT (R148). -/
def State.answerEntry (s : State) (ticket status : Nat) : State :=
  match s.eng.outst.find? (fun o => o.ticket == ticket) with
  | some o =>
      { s with eng := { s.eng with outst := s.eng.outst.filter (fun p => p.ticket != ticket) } }.respond o.op o.cmd
        { outWords [s.pwrStat] with status := status } true
  | none => s

/-- The delay limit of the ask step has passed (R84). -/
def State.delayOver (s : State) (e : Entry) : Bool :=
  decide (e.since + s.cfg 0x40000040 0 10 * 1000000 ≤ s.now)

/-- Decision of an entry at a racking (R84): refusal, OK, delay limit, or another racking. -/
def State.decideEntry (s : State) : State :=
  match s.pwr.entry with
  | none => s
  | some e =>
      if e.step != 1 then s
      else
        let l := (s.asks e.cellar).filter (fun a => !e.granted.contains a.1)
        match l.find? (fun a => a.2 == 2) with
        | some a => (s.abandon 1 a.1).answerEntry e.ticket 0x21
        | none =>
            let t := s.valveAsked l
            let g := e.granted ++ (l.filter (fun a => a.2 == 0)).map (·.1)
            if l.all (fun a => a.2 == 0) then
              let e1 : Entry := { e with step := 2, since := s.now, granted := g, okReply := s.link.nextNum }
              ({ t with pwr := { t.pwr with entry := some e1 }, link := { t.link with lossState := if t.link.lossState = 1 then 0 else t.link.lossState } }).answerEntry e.ticket 0
            else if s.delayOver e then (t.abandon 2 0).answerEntry e.ticket 0x30
            else { t with pwr := { t.pwr with entry := some { e with granted := g } } }

/-- The entry command is answered at the next racking (R84, R86). -/
def State.busyEntry (s : State) (e : Entry) : State := s.answer (fun o => o.ticket == e.ticket) 0x30 [s.pwrStat]

def execEntryDelayLimit (at_ : Nat) (s : State) : Host.Outcome State Fault Refusal :=
  let s0 := s.atPhase at_
  s.done (match s0.pwr.entry with
    | some e => if e.step == 1 && s0.delayOver e then (s0.abandon 2 0).busyEntry e else s0
    | none => s0)

/-- VALVE resumes at the racking after an abandoned entry (R86, R244). -/
def State.resumeGrants (s : State) : State :=
  if s.pwr.entry.isNone && s.valve.entryHold then
    let t := { s with valve := { s.valve with entryHold := false } }
    t.boostBack
  else s

/-! ### Drain and hand-over (R85) -/

/-- The OK reply has been read and HCSN is high. -/
def State.okRead (s : State) (e : Entry) : Bool := !s.link.hcsnLow && !(s.link.replies ++ s.link.held).any (fun r => r.num == e.okReply)

def execDrainComplete (at_ : Nat) (s : State) : Host.Outcome State Fault Refusal :=
  let s0 := s.atPhase at_
  s.done (match s0.pwr.entry with
    | some e => if e.step == 2 && !e.drained && s0.okRead e then
        { s0 with pwr := { s0.pwr with entry := some { e with drained := true, since := s0.now } } } else s0
    | none => s0)

def execDrainTimeout (at_ : Nat) (s : State) : Host.Outcome State Fault Refusal :=
  let s0 := s.atPhase at_
  s.done (match s0.pwr.entry with
    | some e => if e.step == 2 && !e.drained && decide (e.since + 10000000 ≤ s0.now) then s0.abandon 3 0 else s0
    | none => s0)

/-- Hand-over, from the first press tick after the drain: the keepers take the hold-class channels with
their states unchanged, and the PLL-derived domains step down towards the commit (R100). -/
def State.handOver (s : State) (e : Entry) : State :=
  let took := s.loads.filter (fun n => s.holdClass n && !(s.ch n).keeper.held)
  let t := s.keepersTake
  { t with
    clk := { t.clk with rampDir := 1 }
    pwr := { t.pwr with entry := some { e with step := 3, since := s.now, took := took } } }

def execHandOver (at_ : Nat) (s : State) : Host.Outcome State Fault Refusal :=
  let s0 := s.atPhase at_
  s.done (match s0.pwr.entry with
    | some e => if e.step == 2 && e.drained && decide (e.since ≤ s0.clk.tickNs) then s0.handOver e else s0
    | none => s0)

/-- Channels that an abandoned hand-over took return to LOADSW with their states unchanged (R86). -/
def State.takeBack (s : State) : State :=
  let t := s.forEach s.pwr.handBack (fun t n => t.updLoad n (fun ch => { ch with keeper := default }))
  { t with pwr := { t.pwr with handBack := [] } }

/-! ### Commit -/

/-- A port as Park begins: the reference stays, and what it exits with before its first Park sample is
free (R256). -/
def portAtCommit (p : Port) (free : Bool) : Port :=
  { (default : Port) with raw := p.raw, ref := p.ref, parkState := free }

/-- Park commit: what Park does not retain is gone; the keepers hold their channels with no lease; the
time bases and the bank SB1 stay (R81, R85, R87, R331, R361, R445, R461). -/
def State.parkNow (s0 : State) : State :=
  let s := s0.nmCommit
  let r0 := s.fresh
  let r1 := r0.2.fresh
  let free : BitVec 64 := r1.1 ++ r0.1
  let v := r1.2.volatileReset
  { v with
    clk := { v.clk with tickNs := s.now, phase := 0, failOver := s.clk.failOver }
    pwr := { v.pwr with phase := .park, powerOn := false, booted := false, fuseFailed := s.pwr.fuseFailed
                        leaseEnd := none, holdState := 0, limpRel := false, patchApplied := s.pwr.patchApplied
                        patchRejected := s.pwr.patchRejected, patchLevel := s.pwr.patchLevel
                        entry := none, woken := false, parkN := 0 }
    supply := { v.supply with relDue := false }
    can := tab 4 (fun k => { (vget v.can k) with trxSleep := (s.canc k).trxSleep })
    valve := { v.valve with boost := .off }
    port := tab 64 (fun n => portAtCommit (s.si n) (free.getLsbD n))
    acc := { v.acc with lastEnd := 0, thrEntries := 0 }
    mem := { v.mem with test := s.mem.test, rowsFixed := s.mem.rowsFixed
                        bytes := s.mem.bytes.filter (fun p => bankNum p.1 == 1)
                        poison := s.mem.poison.filter (fun a => bankNum a == 1)
                        inj := s.mem.inj.filter (fun p => bankNum p.1 == 1) } }

/-- Cellar commit: the Cellar wake configuration is latched and everything else loses power (R81, R85). -/
def State.cellarNow (s : State) : State :=
  let t := s.powerReset
  { t with pwr := { t.pwr with
      phase := .cellar, rstCause := s.pwr.rstCause, wakeRec := s.pwr.wakeRec, wakeTime := s.pwr.wakeTime
      cellarWake := s.reg 0x40000048, cellarCfg := s.reg 0x4000004C, limpActive := false } }

/-- The commit instant of an entry: 30 µs after hand-over. -/
def State.commitDue (s : State) (cellar : Bool) : Bool :=
  match s.pwr.entry with
  | some e => e.step == 3 && e.cellar == cellar && decide (e.since + 30000 ≤ s.now)
  | none => false

def execParkCommit (at_ : Nat) (s : State) : Host.Outcome State Fault Refusal :=
  let s0 := s.atPhase at_
  s.done (if s0.commitDue false then s0.parkNow else s0)

def execCellarCommit (at_ : Nat) (s : State) : Host.Outcome State Fault Refusal :=
  let s0 := s.atPhase at_
  s.done (if s0.commitDue true then s0.cellarNow else s0)

/-! ### Wakes (R86, R89-R91) -/

/-- A wake source is armed: switch inputs towards Park, the passive SI0 comparator towards Cellar, and the
comparators that WAKE_CFG enables (R89). -/
def wakeArmed (cellar port : Bool) (wakeCfg cellarCfg : Word) (code : Nat) : Bool :=
  match code with
  | 1 => !cellar && port
  | 2 => cellar && bit cellarCfg 0
  | 3 => bit wakeCfg 0
  | 4 => bit wakeCfg 1
  | 5 => bit wakeCfg 2
  | _ => false

/-- A device wake is a wake cause of the network (R355). -/
def State.localWake (s : State) (codes : List Nat) : State :=
  if s.nmLocalWake && codes.any (· != 3) then s.nmWake 2 0 else s

/-- Armed sources fire before commit: the entry is abandoned with cause WAKE, in the ask step with the
answer BUSY (R86). -/
def State.wakeEntry (s : State) (e : Entry) (codes : List Nat) (index : Nat) : State :=
  let t := (s.wakeAbandon 4 codes index).localWake codes
  if e.step == 1 then t.busyEntry e else t

/-- Source 1 of port n: its debounced state has left its reference before commit; in Park the Park samples decide,
which PARK_SAMPLE counts (R264). -/
def State.portFires (s : State) (n : Nat) : Bool :=
  s.pwr.entry.isSome && s.armed n && (s.portNow n).valid && ((s.portNow n).state != (s.si n).ref)

/-- A port armed for Park whose Run state has left its reference abandons a Park entry; of several, the lowest is
recorded (R91, R264; DESIGN CHOICE, log 89). -/
def State.entryWake (s : State) : State :=
  match s.pwr.entry with
  | some e =>
      if e.cellar then s
      else match (List.range 64).find? s.portFires with
        | some n => s.wakeEntry e [1] n
        | none => s
  | none => s

/-- Sources that fire at one PARK clock edge in Park: the record, and the exit begins (R88, R91). -/
def State.wakePark (s : State) (codes : List Nat) (index cycles : Nat) : State :=
  { s with pwr := { s.pwr with wakeRec := wakeRecord s codes index 1, wakeTime := cycles % 2 ^ 32, woken := true } }

/-- A wake from Cellar: power-on reset with CELLAR_WAKE; the retention registers stay (R66, R82, R91). -/
def State.wakeCellar (s : State) (codes : List Nat) : State :=
  let t := s.powerReset
  { t with pwr := { t.pwr with
      phase := .startup, rstCause := s.pwr.rstCause ||| 32, wakeRec := wakeRecord s codes 0 3, wakeTime := 0
      cellarWake := s.pwr.cellarWake, cellarCfg := s.pwr.cellarCfg } }

/-- Wake sources fire, wherever the device stands. -/
def State.wakeFired (s : State) (codes : List Nat) (index cycles : Nat) : State :=
  let live := fun (cellar : Bool) => codes.filter (wakeArmed cellar (s.portFires index) (s.reg 0x40000048) (s.reg 0x4000004C))
  match s.pwr.phase, s.pwr.entry with
  | .run, some e => if (live e.cellar).isEmpty then s else s.wakeEntry e (live e.cellar) index
  | .park, _ => if s.pwr.woken || (live false).isEmpty then s else s.wakePark (live false) index cycles
  | .cellar, _ =>
      let l := codes.filter (wakeArmed true false s.pwr.cellarWake s.pwr.cellarCfg)
      if l.isEmpty then s else s.wakeCellar l
  | _, _ => s

def execWakeSourceFired (at_ : Nat) (codes : List Nat) (index cycles : Nat) (s : State) :
    Host.Outcome State Fault Refusal :=
  s.done ((s.atPhase at_).wakeFired codes (index % 64) cycles)

def execCellarWake (at_ : Nat) (codes : List Nat) (s : State) : Host.Outcome State Fault Refusal :=
  let s0 := s.atPhase at_
  s.done (if s0.pwr.phase == .cellar then s0.wakeFired codes 0 0 else s0)

/-- One Park cycle; `also` are other sources that fire at its edge. Of several ports that reach N_P in one cycle the
lowest is recorded (R91, R263, R264; DESIGN CHOICE, log 89). -/
def State.parkSampled (s : State) (also : List Nat) : State :=
  let r := s.parkCycle
  match r.2 with
  | [] => r.1
  | n :: _ => r.1.wakePark (1 :: also.filter (wakeArmed false false (s.reg 0x40000048) (s.reg 0x4000004C))) n
      (r.1.pwr.parkN * s.parkPeriod)

def execParkSample (at_ : Nat) (pins : List (Nat × Contact)) (also : List Nat) (s : State) :
    Host.Outcome State Fault Refusal :=
  let s0 := s.atPhase at_
  s.done (
    let s1 := pins.foldl (fun t p => { t with contact := vput t.contact p.1 p.2 }) s0
    if s1.pwr.phase != .park || s1.pwr.woken then s1 else s1.parkSampled also)

/-- What stands at SIn's pin has changed c.dur PER cycles ago, and the port has been sampled since: N equal raw
samples give a debounced state (R252-R255); a port armed for Park that leaves its reference abandons an entry
(R264). -/
def execDebouncedStateChange (at_ : Nat) (n : Fin 64) (c : Stood) (s : State) : Host.Outcome State Fault Refusal :=
  s.done ((s.atPhase at_).pinChange n c.contact c.dur).entryWake

/-! ### Park exit (R88) -/

/-- Bridge over Park in ns (R331). -/
def State.bridgeNs (s : State) : Nat := s.pwr.wakeTime * 1000000000 / s.parkHz

/-- Ports at a Park exit, by the registers in force in Park (R256). -/
def State.portsAtExit (s : State) : State :=
  s.forEach (List.range 64) (fun t n =>
    if s.armed n then t.updPort n (fun p =>
      { p with raw := p.parkState, run := 0, state := p.parkState, valid := true
               cmdLatch := p.parkState != p.ref, cmdSeq := s.evSeq })
    else t.updPort n (fun p => { p with raw := false, run := 0 }))

/-- Every block is loaded from the live image: at bottling and at a Park exit (R163, R88). -/
def State.loadEngines (s : State) : State :=
  let s1 := (s.forEach s.cans State.canLoad).forEach s.lins State.linLoad
  s1.forEach s1.ports State.t1sLoad

/-- What R361 gives NETMGR at the first racking after a Park exit. -/
def State.exitJoin (s : State) : Nat :=
  if bit s.pwr.wakeRec 26 then 4 else if bit (stActs s.live.regs nmCfg) 1 then 3 else 2

/-- The Park exit: memory steps, clocks, the bridge of the time bases, and the live image. -/
def State.leavePark (s : State) (b : BootIn) : State :=
  let ns := s.bridgeNs
  let s1 := { s.portsAtExit with
    clk := { s.clk with tickNs := s.clk.tickNs + ns, phase := 0
                        tickSel := bits (stActs s.live.regs 0x40010000) 0 3
                        nextSel := bits (stActs s.live.regs 0x40010000) 0 3 }
    tim := { s.tim with tb0Rc := true, bridged := true, bridgeUs := min (ns / 1000) 4294967295 }
    pwr := { s.pwr with phase := .run, booted := true, woken := true }
    regs := s.live.regs, svc := s.live.regs
    mem := { s.mem with test := s.mem.test ||| 3 } }
  let s2 := (s1.testFail 1 1 b.wordOk).testFail 2 2 b.pageOk
  let s3 := if s.clk.failOver then { s2 with clk := { s2.clk with src := 2, pllLock := true } } else s2.findXclk b
  let s4 := { s3 with nm := { s3.nm with resume := s3.exitJoin } }
  ((s4.loadSetPoints s4.live.regs).loadEngines).bindBases

def execParkExit (at_ : Nat) (b : BootIn) (s : State) : Host.Outcome State Fault Refusal :=
  let s0 := s.atPhase at_
  s.done (if s0.pwr.phase == .park && s0.pwr.woken then s0.leavePark b else s0)

end Sys2Proof.Machine
end

