-- ==== Sys2Proof/Machine/Racking.lean ====
section
/-! DEFINITION. The press tick and the work of a frame up to its applet slots (R110-R115): racking,
bottling (R166), the output update, and the first press tick of a start-up or Park exit (R70, R88, R485).
Racking takes no time in the model; its duration in FRAME_RACK is a free value within the bound of R112. -/

namespace Sys2Proof.Machine

/-! ### The tick (R110, R111, R115, R330) -/

/-- The tick is the first of a start-up or of a Park exit: E and the grids start afresh at either (R180 names start-ups,
R82 does not call a Park exit one: DESIGN CHOICE, log 107). -/
def State.firstTick (s : State) : Bool := s.pwr.phase == .startup || s.pwr.woken

/-- TB0 of the coming press tick: on the grid of the period in service, later by the slip of a fail-over
window; the first tick of a start-up after a power-on reset starts TB0 at 0. -/
def State.tickAt (s : State) (slip : Nat) : Nat :=
  if s.pwr.phase == .startup && s.pwr.powerOn then s.now
  else if s.firstTick then s.now + 10 * slip
  else max s.now (s.clk.tickNs + s.period + (if s.clk.slipDue then 10 * min slip (15000 - s.clk.slipSum) else 0))

/-- The frame ends at TB0 t: CLIPPED, and what each channel's gate did in it (R193, R206). -/
def State.frameEnd (s : State) (t : Nat) : State :=
  let s1 := ({ s with clk := { s.clk with phase := (t - s.clk.tickNs) / 10 } }).noteClips
  s1.forEach s1.loads (fun u n =>
    let c := !s1.pwr.fuseFailed && s1.owner n == 0 && s1.cmdOnWithin n s.clk.tickNs t
    u.updLoad n (fun ch => { ch with onPrev := ch.onFrame || c, onSince := ch.onSince || c, onFrame := false
                                     drv := if c then ch.act else ch.drv }))

/-- A deferred command comes one racking nearer (R143). -/
def Eng.rackOpen (e : Eng) : Eng :=
  { e with qNext := e.qAfter, qAfter := [], rack := e.qNext.filter (·.slot.isSome)
           rackHost := e.qNext.filter (·.slot.isNone), rackCmds := 0, rackActs := 0, rackSets := [], hostNodes := []
           deferred := e.deferred.map (fun d => { d with left := d.left - 1 }) }

/-- The tick itself: TB0, FRAME_TICK_COUNT, the queues, FRAME_STAT.SLIP. -/
def State.tick (s : State) (i : TickIn) : State :=
  let late := s.clk.slipDue && !s.firstTick && decide (0 < i.slip) && decide (s.clk.slipSum < 15000)
  let t := s.tickAt i.slip
  let first := s.firstTick
  let s1 := s.frameEnd t
  let c := s1.clk
  let slow := if late then min i.slip (15000 - c.slipSum) else 0
  let s2 : State := { s1 with
    clk := { c with
      tickNs := t, phase := 0, epoch := if first then t else c.epoch
      tickCount := (c.tickCount + 1) % 2 ^ 32
      slipDue := c.slipDue && c.rampDir != 0
      slip := if late then satInc c.slip 255 else c.slip
      slipSum := c.slipSum + slow
      rampExp := if first then 0 else c.rampExp
      rampDir := if first then 0 else c.rampDir
      parkHz := i.parkHz % 65536 },
    eng := s1.eng.rackOpen
    link := { s1.link with hcsnLow := i.hcsnLow && s1.supply.vioOk }
    evSeq := s1.evSeq + 1
    app := ⟨⟨s1.app.toList.map (fun a => { a with results := [] })⟩, by simp⟩
    pwr := { s1.pwr with phase := .run, resumeDue := false, woken := false, woke := s1.pwr.woke || s1.pwr.woken } }
  (if late then s2.fault 0x12 0 else s2).noteGates

/-! ### Step 1: snapshots, publication, monitors -/

/-- Quadrants more than 1.0 V below the highest (R54): since when, and the events that fall due. The 1 ms
starts afresh after the comparison has stopped below 6 V. DESIGN CHOICE, log 88: R54 only says that it stops. -/
def State.skewStep (s : State) (quads : List Nat) : State :=
  let top := quads.foldl max 0
  let low := fun (q : Nat) => decide (6000 ≤ s.supply.vbatMv) && decide ((quads[q]?.getD top) + 1000 < top)
  let since := fun (q : Nat) => (vget s.supply.skewFrom q).getD s.now
  let due := fun (q : Nat) => low q && !(vget s.supply.skewDone q) && decide (since q + 1000000 ≤ s.now)
  { s with supply := { s.supply with
      skewFrom := tab 4 (fun q => if low q then some (since q) else none)
      skewDone := tab 4 (fun q => low q && (vget s.supply.skewDone q || due q)) } }.faults
    (((List.range 4).filter due).map (fun q => plainEvent 0x06 q))

/-- A pin as the tick finds it (R184, R185). -/
def pinTick (p : PwmPin) (now : Nat) (w : Option PinWave) : PwmPin := match w with | some w => p.take w now | none => p

/-- Direct writes to SWIN and FIELD registers act from a racking on (R267, R290). -/
def State.serveWrites (s : State) : State :=
  let s1 := { s with svc := loadWindow (loadWindow s.svc s.regs 5) s.regs 6 }
  s1.forEach s1.fios (fun t n => t.updFio n (fun c => { c with mode := s1.cfg (fioCfg n) 0 2 }))

/-- Step 1 of R112, with the comparison of R54, the loss monitor (R135) and the door inputs (R266). The
second result tells that the monitor entered Lost. -/
def State.step1 (s0 : State) (i : TickIn) : State × Bool :=
  let sv := { s0 with supply := { s0.supply with vbatMv := i.vbatMv % 65536 } }
  let s := ((i.contacts.foldl (fun t c => t.pinChange c.1 c.2.1 c.2.2) sv).sweepPorts).entryWake.serveWrites
  let s1 := { s with
    tickTsc := s.tsc
    pins := tab 8 (fun p => pinTick (vget s.pins p) s.now i.pins[p]?)
    valve := { s.valve with vboost := i.vboost } }.noteVboost i.vboost |>.tickTime_
  let s2 := { s1 with clk := { s1.clk with snapSeq := s1.evSeq } }.snapPorts.snapField.publish
  let s3 := if hasAccess s2.var then s2.doorEvents.foldl State.doorOpen s2 else s2
  let s4 := s3.doorsSeen.skewStep i.quads
  let cause := s4.lossCause
  let s5 := { s4 with link := { s4.link with vioLost := false } }
  if cause = 0 then (s5, false) else (s5.enterLost cause, true)

/-! ### Bottling (R166) -/

/-- The staged starts of slots 0-7 take effect (R419). -/
def State.startSlots (s : State) : State := s.forEach (List.range 8) State.startSlot

/-- VAT_BOTTLE at racking b is answered (R166). -/
def State.answerBottle (s : State) (status : Nat) (words : List Word) : State :=
  match s.eng.outst.find? (fun o => o.wait == .vatBottle) with
  | some o =>
      { s with eng := { s.eng with outst := s.eng.outst.filter (fun p => p.ticket != o.ticket) } }.respond o.op o.cmd
        { outWords words with status := status } true
  | none => s

/-- Racking b of a bottling: the THERMAL check again, then the inactive half of the live image becomes the
live one. The second result tells that it did. -/
def State.bottle (s : State) : State × Bool :=
  if s.vat.st != .bottling then (s, false)
  else
    let fs := s.thermFails s.vat.img.regs
    if fs.isEmpty then
      let img := s.vat.img
      let s1 := { s with
        live := img, regs := img.regs
        clk := { s.clk with nextSel := bits (stActs img.regs 0x40010000) 0 3 }
        vat := { closeVat s.vat 1 with liveGen := (s.vat.liveGen + 1) % 2 ^ 32 } }
      (((s1.startSlots.unstage).loadSetPoints img.regs).answerBottle 0 [], true)
    else
      let f := worstFail fs
      let s1 := s.noteFail f fs.length
      (({ s1 with vat := { s1.vat with st := .open, leaseFrom := s.now } }).answerBottle 0x20 (failWords f fs.length), false)

/-! ### Step 3 -/

/-- A block reset is followed by the reload of its registers from the live image (R69). -/
def State.reloadBlock (s : State) (b : Nat) : State :=
  let s1 := { s with regs := loadWindow s.regs s.live.regs b, svc := loadWindow s.svc s.live.regs b }
  match b with
  | 3 => s1.loadSetPoints s.live.regs
  | 4 => s1.boostLoad
  | 6 => s1.forEach s1.fios (fun t n => t.updFio n (fun c => { c with mode := s1.cfg (fioCfg n) 0 2 }))
  | 7 => s1.forEach s1.cans State.canLoad
  | 8 => s1.forEach s1.lins State.linLoad
  | 9 => s1.forEach s1.ports State.t1sLoad
  | 11 => s1.nmLoad
  | 12 => s1.accFollow
  | _ => s1
def State.reloadBlocks (s : State) : State :=
  { s.clk.reload.foldl State.reloadBlock s with clk := { s.clk with reload := [] } }

/-- The first racking after a Park exit: the keepers hand their channels back (R88), and a retry counts as
due (R201). -/
def State.parkHandBack (s : State) : State :=
  let s1 := s.forEach s.loads (fun t n => if (s.ch n).keeper.held then t.passBack n else t)
  s1.forEach s1.loads (fun t n => t.updLoad n (fun ch =>
    if ch.ocLatch && !ch.locked then { ch with retryAt := some s.now } else ch))

/-- The start of step 3: the watchdog is serviced (R68); what the previous state of the supply, of LIMPN and of an entry gives back, the
recovery work of the non-maskable trap, and reloads (R62, R80, R86, R434, R69). -/
def State.rackBegin (s : State) : State :=
  let s1 := { s with
    supply := { s.supply with relDue := false }
    pwr := { s.pwr with limpRel := false, nmi := false, wdgMissed := 0 }
    load := ⟨⟨s.load.toList.map (fun (ch : LoadCh) => { ch with refused := false })⟩, by simp⟩
    valve := { s.valve with v := ⟨⟨s.valve.v.toList.map (fun (v : Valve) => { v with refused := false })⟩, by simp⟩ } }
  (s1.takeBack.reloadBlocks).islandRack

/-- What the first racking of a start-up or Park exit adds (R70, R88, R337, R361, R365, R375). -/
def State.rackFirst (s : State) (parked : Bool) : State :=
  let s1 := if parked then s.parkHandBack else s
  let s2 := if s.pwr.powerOn then s1.accFirstTick else s1
  let s3 := s2.syncRestart.accFollow
  let s4 := if parked then s3.boostLoad else s3
  if s4.nm.resume = 0 then s4 else s4.nmResume

/-- Commands answered at a later racking whose answer is known (R144). -/
def State.postAnswers (s : State) : State :=
  s.eng.outst.foldl (fun t o =>
    match o.answer with
    | some (st, ws) =>
        { t with eng := { t.eng with outst := t.eng.outst.filter (fun p => p.ticket != o.ticket) } }.respond o.op o.cmd
          { outWords ws with status := st } true
    | none => t) s

/-- Every deferred command that is due, oldest first (R143). -/
def State.runDue (s : State) : State :=
  (s.eng.deferred.filter (fun d => d.left == 0)).foldl (fun t _ => t.andRun State.runDeferred) s

/-- The applet requests of the racking in issue order; one that a stop has dropped is not met (R420). -/
def State.runRack : Nat → State → State
  | 0, s => s
  | n + 1, s =>
      match s.eng.rack with
      | [] => s
      | q :: r => State.runRack n (({ s with eng := { s.eng with rack := r } }).andRun (fun t => t.runRequest q))

/-- An entry was asked for in this racking (R83, R260). -/
def State.askedNow (s : State) : Bool :=
  match s.pwr.entry with | some e => e.step == 1 && e.since == s.now | none => false

/-- The watches are checked at the end of step 3 (R260). -/
def State.endStep3 (s : State) : State := s.andRun (fun t => t.checkWatches t.askedNow)

def execWatchInputs (c : HostCmd) (s : State) : Host.Outcome State Fault Refusal := s.done (s.hostRow 0x33 c).endStep3
/-- A port armed for Park that has left its snapshot since this racking fires at once (R264). -/
def execEnterPark (c : HostCmd) (s : State) : Host.Outcome State Fault Refusal :=
  s.done ((s.hostRow 0x78 c).endStep3.andRun State.entryWake)
def execEnterCellar (c : HostCmd) (s : State) : Host.Outcome State Fault Refusal := s.done (s.hostRow 0x79 c).endStep3

/-- Step 3 from the releases on: answers, deferred commands, host commands, applet requests, watches, and
the repairs of the racking (R112, R143, R199, R243, R84, R260, R302, R42, R362). -/
def State.step3 (s : State) : State :=
  let cmds := s.eng.rackHost
  let s1 := (s.resumeGrants.decideEntry).postAnswers
  let s2 := { s1 with eng := { s1.eng with rackHost := [] } }.runDue
  let s3 := cmds.foldl (fun t q => t.andRun (fun u => u.runQueued q)) s2
  let s4 := State.runRack s3.eng.rack.length s3
  s4.endStep3.andRun (fun t => (t.canReplaceDue.ledgerRack).fsRestart)

/-! ### Step 4 -/

/-- The registers of a bottling act, and every block takes the load (R163, R166). -/
def State.serveBottled (s : State) : State :=
  let s0 := { s with svc := s.regs }
  let s1 := if s0.lossEnabled then s0 else { s0 with link := { s0.link with lossState := 0 } }
  let s2 := ((s1.loadEngines.boostLoad).serveModes s).portsReloaded s
  ((s2.nmLoad.bindBases).accFollow).islandBottled.islandRack

/-- Field outputs whose protection or hold-off has ended return (R277, R282). -/
def State.fieldReturns (s : State) : State :=
  s.updField (fun f => { f with relDue := f.relDue && (f.iLost || f.iOver || decide (2 ≤ f.fv24State) && f.st == .run)
                                ch := ⟨⟨f.ch.toList.map (fun c => { c with relDue := false })⟩, by simp⟩ })

/-- Retirements, which need the channel to have been off since the update before (R216). -/
def State.retireAll (s : State) : State :=
  let s1 := s.forEach s.loads State.retire
  s1.forEach s1.loads (fun t n => t.updLoad n (fun ch => { ch with onSince := false }))

/-- The output update: every shadow set-point acts in one PER cycle (R112). -/
def State.outputUpdate (s : State) (bottled : Bool) : State :=
  let s1 := if bottled then s.serveBottled else { s with svc := loadWindow s.svc s.regs 3 }
  let s2 := (({ s1 with eng := { s1.eng with
    rackSets := s1.eng.rackSets.map (fun (r : RackSet) => { r with pend := false }) } }).forEach s1.loads State.updateChannel).newPinFaults s
  let s3 := s2.updateValves
  let s4 := s3.fieldReturns.updateField
  let s5 := ((s4.canEnter.linOutput).t1sEnter).timeOutput
  let s6 := s5.nmOutput.accOutput
  (s6.retireAll.andRun State.beginTest).andRun (fun t => (t.noteGates).storePred)

/-- Bound of a racking of n commands and c unit actions, with d page decodes, in 10 ns: 6 µs, 0.25 µs a
command, 1.25 ns a unit action, 2 µs a decode, and the output update (R112, R113). -/
def rackBound (n c d : Nat) : Nat := min 65535 (601 + 25 * n + c / 8 + 200 * d)

/-- FRAME_RACK: a free duration within the bound. -/
def State.rackTook (s : State) (decodes : Nat) : State :=
  let bound := rackBound s.eng.rackCmds s.eng.rackActs decodes
  let r := s.fresh
  let t := r.1.toNat % (bound + 1)
  { r.2 with clk := { r.2.clk with rackTime := t, rackMax := max r.2.clk.rackMax t } }

/-! ### The whole frame up to step 5 -/

/-- The frame of a press tick. -/
def State.frame (s0 : State) (i : TickIn) : State :=
  let s := if s0.appTodo.isEmpty then s0 else s0.windowClose
  let first := s.firstTick
  let parked := s.pwr.woken
  let s1 := s.tick i
  let s2 := if first then s1.releaseHeld else s1
  if !s2.inRun then s2
  else
    let a := s2.step1 i
    let s3 := a.1.andRun (fun t =>
      let u := t.thermStep i
      { u with clk := { u.clk with tickSel := u.clk.nextSel } })
    if !s3.inRun then s3
    else
      let held := s3.supply.relDue && !s3.supply.low && !s3.supply.ov
      let s4 := s3.noteDriven.rackBegin
      let s5 := if first then s4.rackFirst parked else s4
      let b := s5.bottle
      let s6 := if a.2 then b.1.lossActions else b.1
      let s7 := s6.releaseStage
      let s8 := if held then s7.resumeValves i.valveMa else s7
      let s9 := s8.step3
      ((s9.andRun (fun t => t.outputUpdate b.2)).andRun (fun t => (t.rackTook i.decodes).moveHeld)).andRun (State.appletStep i.cut)

/-! ### Rows -/

def execPressTick (i : TickIn) (s : State) : Host.Outcome State Fault Refusal :=
  s.done (if s.inRun then s.frame i else s)

def execFirstPressTick (i : TickIn) (s : State) : Host.Outcome State Fault Refusal :=
  s.done (if s.pwr.phase == .startup && s.pwr.booted && !s.pwr.rstnLow then s.frame i else s)

/-- The check completes within 2 ms of command-engine time (R165). -/
def execVatCheckDone (at_ : Nat) (s : State) : Host.Outcome State Fault Refusal :=
  let s0 := s.atPhase at_
  s.done (if s0.vat.st == .checking then s0.vatChecked else s0)

def execVatStoreDone (at_ : Nat) (o : FlashOut) (s : State) : Host.Outcome State Fault Refusal :=
  s.done ((s.atPhase at_).vatStored o)

def execVatLeaseExpiry (at_ : Nat) (s : State) : Host.Outcome State Fault Refusal :=
  s.done ((s.atPhase at_).vatExpire)

end Sys2Proof.Machine
end

