-- ==== Sys2Proof/Machine/Dispatch.lean ====
section
/-! DEFINITION. The dispatch: one arm per row of the table, each a direct call of its meaning. -/

namespace Sys2Proof.Machine

def exec (i : Instr) (s : State) : Host.Outcome State Fault Refusal :=
  match i with
  | .vbatPowerOn b => Sys2Proof.Machine.execVbatPowerOn b s
  | .firstPressTick j => Sys2Proof.Machine.execFirstPressTick j s
  | .brownOut at_ => Sys2Proof.Machine.execBrownOut at_ s
  | .railFault at_ => Sys2Proof.Machine.execRailFault at_ s
  | .lowSupplyEntry at_ => Sys2Proof.Machine.execLowSupplyEntry at_ s
  | .lowSupplyEnd at_ => Sys2Proof.Machine.execLowSupplyEnd at_ s
  | .overvoltageEntry at_ => Sys2Proof.Machine.execOvervoltageEntry at_ s
  | .overvoltageEnd at_ => Sys2Proof.Machine.execOvervoltageEnd at_ s
  | .vioLow at_ => Sys2Proof.Machine.execVioLow at_ s
  | .vioRestored at_ => Sys2Proof.Machine.execVioRestored at_ s
  | .rstnLowPulse at_ ns => Sys2Proof.Machine.execRstnLowPulse at_ ns s
  | .rstnRelease at_ b => Sys2Proof.Machine.execRstnRelease at_ b s
  | .bootRomStart at_ b => Sys2Proof.Machine.execBootRomStart at_ b s
  | .watchdogExpiry w => Sys2Proof.Machine.execWatchdogExpiry w s
  | .ceLockstepMismatch at_ => Sys2Proof.Machine.execCeLockstepMismatch at_ s
  | .xclkFailure at_ counts => Sys2Proof.Machine.execXclkFailure at_ counts s
  | .pllRelockRc at_ => Sys2Proof.Machine.execPllRelockRc at_ s
  | .dividerStep at_ => Sys2Proof.Machine.execDividerStep at_ s
  | .pllUnlock at_ => Sys2Proof.Machine.execPllUnlock at_ s
  | .pressTick j => Sys2Proof.Machine.execPressTick j s
  | .diagnosticSampling at_ d => Sys2Proof.Machine.execDiagnosticSampling at_ d s
  | .appletWindowClose at_ => Sys2Proof.Machine.execAppletWindowClose at_ s
  | .commandTransaction at_ words mode3 => Sys2Proof.Machine.execCommandTransaction at_ words mode3 s
  | .replyReadTransaction at_ first words mode3 => Sys2Proof.Machine.execReplyReadTransaction at_ first words mode3 s
  | .invalidTransaction at_ first mode3 => Sys2Proof.Machine.execInvalidTransaction at_ first mode3 s
  | .hclkIdleAbort at_ words mode3 => Sys2Proof.Machine.execHclkIdleAbort at_ words mode3 s
  | .heldReplyPosted at_ => Sys2Proof.Machine.execHeldReplyPosted at_ s
  | .deferredCommandDue at_ => Sys2Proof.Machine.execDeferredCommandDue at_ s
  | .hostLossTimeout at_ => Sys2Proof.Machine.execHostLossTimeout at_ s
  | .hostLossErrLimit at_ => Sys2Proof.Machine.execHostLossErrLimit at_ s
  | .holdLeaseExpiry at_ => Sys2Proof.Machine.execHoldLeaseExpiry at_ s
  | .limpnAsserted at_ => Sys2Proof.Machine.execLimpnAsserted at_ s
  | .limpnReleased at_ => Sys2Proof.Machine.execLimpnReleased at_ s
  | .nop c => Sys2Proof.Machine.execNop c s
  | .ping c => Sys2Proof.Machine.execPing c s
  | .getStatus c => Sys2Proof.Machine.execGetStatus c s
  | .getFeatures c => Sys2Proof.Machine.execGetFeatures c s
  | .cancel c => Sys2Proof.Machine.execCancel c s
  | .vatOpen c => Sys2Proof.Machine.execVatOpen c s
  | .vatWrite c => Sys2Proof.Machine.execVatWrite c s
  | .vatCheck c => Sys2Proof.Machine.execVatCheck c s
  | .vatCheckDone at_ => Sys2Proof.Machine.execVatCheckDone at_ s
  | .vatBottle c => Sys2Proof.Machine.execVatBottle c s
  | .vatDiscard c => Sys2Proof.Machine.execVatDiscard c s
  | .vatRead c => Sys2Proof.Machine.execVatRead c s
  | .vatStore c => Sys2Proof.Machine.execVatStore c s
  | .vatStoreDone at_ o => Sys2Proof.Machine.execVatStoreDone at_ o s
  | .vatLoad c => Sys2Proof.Machine.execVatLoad c s
  | .vatLeaseExpiry at_ => Sys2Proof.Machine.execVatLeaseExpiry at_ s
  | .caskDefine c => Sys2Proof.Machine.execCaskDefine c s
  | .caskDelete c => Sys2Proof.Machine.execCaskDelete c s
  | .caskList c => Sys2Proof.Machine.execCaskList c s
  | .setOut c => Sys2Proof.Machine.execSetOut c s
  | .setDuty c => Sys2Proof.Machine.execSetDuty c s
  | .setPhase c => Sys2Proof.Machine.execSetPhase c s
  | .pulse c => Sys2Proof.Machine.execPulse c s
  | .clearLatch c => Sys2Proof.Machine.execClearLatch c s
  | .staggerElapsed at_ n => Sys2Proof.Machine.execStaggerElapsed at_ n s
  | .rampComplete at_ n => Sys2Proof.Machine.execRampComplete at_ n s
  | .pulseTrainComplete at_ n => Sys2Proof.Machine.execPulseTrainComplete at_ n s
  | .demagEnd at_ n uj => Sys2Proof.Machine.execDemagEnd at_ n uj s
  | .clampLong at_ n => Sys2Proof.Machine.execClampLong at_ n s
  | .pinOverFrequency at_ p periods high => Sys2Proof.Machine.execPinOverFrequency at_ p periods high s
  | .pinFrequencyOk at_ p periods high => Sys2Proof.Machine.execPinFrequencyOk at_ p periods high s
  | .ocLatchOff at_ n ma => Sys2Proof.Machine.execOcLatchOff at_ n ma s
  | .retryDue at_ n => Sys2Proof.Machine.execRetryDue at_ n s
  | .retryRefill at_ n => Sys2Proof.Machine.execRetryRefill at_ n s
  | .thermalShutdown at_ n => Sys2Proof.Machine.execThermalShutdown at_ n s
  | .thermLatchClear at_ n => Sys2Proof.Machine.execThermLatchClear at_ n s
  | .thermOver at_ c => Sys2Proof.Machine.execThermOver at_ c s
  | .valveFire c => Sys2Proof.Machine.execValveFire c s
  | .valveHold c => Sys2Proof.Machine.execValveHold c s
  | .valveRelease c => Sys2Proof.Machine.execValveRelease c s
  | .peakStart at_ n vboost => Sys2Proof.Machine.execPeakStart at_ n vboost s
  | .peakEnd at_ n topMa reachUs boost01mJ => Sys2Proof.Machine.execPeakEnd at_ n topMa reachUs boost01mJ s
  | .dropEnd at_ n reached rec01mJ => Sys2Proof.Machine.execDropEnd at_ n reached rec01mJ s
  | .holdDurationEnd at_ n => Sys2Proof.Machine.execHoldDurationEnd at_ n s
  | .valveReleaseComplete at_ n reached r => Sys2Proof.Machine.execValveReleaseComplete at_ n reached r s
  | .valveHoldOpen at_ h => Sys2Proof.Machine.execValveHoldOpen at_ h s
  | .valveOc at_ n => Sys2Proof.Machine.execValveOc at_ n s
  | .valveBankOc at_ b => Sys2Proof.Machine.execValveBankOc at_ b s
  | .valveTherm at_ bank n hot => Sys2Proof.Machine.execValveTherm at_ bank n hot s
  | .boostReady at_ vboost => Sys2Proof.Machine.execBoostReady at_ vboost s
  | .boostNotReadyDrop at_ vboost => Sys2Proof.Machine.execBoostNotReadyDrop at_ vboost s
  | .boostChargeTimeout at_ => Sys2Proof.Machine.execBoostChargeTimeout at_ s
  | .boostDischargeDone at_ b => Sys2Proof.Machine.execBoostDischargeDone at_ b s
  | .boostDumpOn at_ vboost => Sys2Proof.Machine.execBoostDumpOn at_ vboost s
  | .boostDumpOff at_ vboost => Sys2Proof.Machine.execBoostDumpOff at_ vboost s
  | .readInputs c => Sys2Proof.Machine.execReadInputs c s
  | .readDiag c => Sys2Proof.Machine.execReadDiag c s
  | .readSense c => Sys2Proof.Machine.execReadSense c s
  | .watchInputs c => Sys2Proof.Machine.execWatchInputs c s
  | .watchTimeout at_ => Sys2Proof.Machine.execWatchTimeout at_ s
  | .debouncedStateChange at_ n c => Sys2Proof.Machine.execDebouncedStateChange at_ n c s
  | .parkSample at_ pins also => Sys2Proof.Machine.execParkSample at_ pins also s
  | .fieldSet c => Sys2Proof.Machine.execFieldSet c s
  | .fieldRead c => Sys2Proof.Machine.execFieldRead c s
  | .islandStart l => Sys2Proof.Machine.execIslandStart l s
  | .fieldUplinkCycle at_ u => Sys2Proof.Machine.execFieldUplinkCycle at_ u s
  | .fieldDownlinkCycle at_ crcOk => Sys2Proof.Machine.execFieldDownlinkCycle at_ crcOk s
  | .fieldLinkLoss at_ cause => Sys2Proof.Machine.execFieldLinkLoss at_ cause s
  | .islandDownlinkTimeout at_ => Sys2Proof.Machine.execIslandDownlinkTimeout at_ s
  | .fieldRetrain l => Sys2Proof.Machine.execFieldRetrain l s
  | .fldPowerFault at_ => Sys2Proof.Machine.execFldPowerFault at_ s
  | .fldPowerRestart at_ => Sys2Proof.Machine.execFldPowerRestart at_ s
  | .fv24StateChange at_ fv24 dur => Sys2Proof.Machine.execFv24StateChange at_ fv24 dur s
  | .fieldInputEdge at_ n l => Sys2Proof.Machine.execFieldInputEdge at_ n l s
  | .fioOcLatch at_ l => Sys2Proof.Machine.execFioOcLatch at_ l s
  | .fioTherm at_ n => Sys2Proof.Machine.execFioTherm at_ n s
  | .fioThermRelease at_ n => Sys2Proof.Machine.execFioThermRelease at_ n s
  | .fioReadbackMismatch at_ n mv dur => Sys2Proof.Machine.execFioReadbackMismatch at_ n mv dur s
  | .fieldPulseEnd at_ n => Sys2Proof.Machine.execFieldPulseEnd at_ n s
  | .canTx c => Sys2Proof.Machine.execCanTx c s
  | .canRead c => Sys2Proof.Machine.execCanRead c s
  | .canCtrl c => Sys2Proof.Machine.execCanCtrl c s
  | .canSelftestDone at_ k badObjs filterOk => Sys2Proof.Machine.execCanSelftestDone at_ k badObjs filterOk s
  | .canIntegrated at_ k => Sys2Proof.Machine.execCanIntegrated at_ k s
  | .canFrameReceived at_ k f rec => Sys2Proof.Machine.execCanFrameReceived at_ k f rec s
  | .canFrameTransmitted at_ k err tec sinceSof => Sys2Proof.Machine.execCanFrameTransmitted at_ k err tec sinceSof s
  | .canBusOffRecovered at_ k => Sys2Proof.Machine.execCanBusOffRecovered at_ k s
  | .canTxdTimeout at_ k stuck => Sys2Proof.Machine.execCanTxdTimeout at_ k stuck s
  | .canObjWord0Read at_ k o m f => Sys2Proof.Machine.execCanObjWord0Read at_ k o m f s
  | .canObjLastWordRead at_ k o m => Sys2Proof.Machine.execCanObjLastWordRead at_ k o m s
  | .canLockLeaseExpiry at_ k o => Sys2Proof.Machine.execCanLockLeaseExpiry at_ k o s
  | .linTx c => Sys2Proof.Machine.execLinTx c s
  | .linRead c => Sys2Proof.Machine.execLinRead c s
  | .linSched c => Sys2Proof.Machine.execLinSched c s
  | .linCtrl c => Sys2Proof.Machine.execLinCtrl c s
  | .linSlotStart at_ c => Sys2Proof.Machine.execLinSlotStart at_ c s
  | .linFrameReceived at_ c data sum e => Sys2Proof.Machine.execLinFrameReceived at_ c data sum e s
  | .linNoResponse at_ c => Sys2Proof.Machine.execLinNoResponse at_ c s
  | .linShort at_ c => Sys2Proof.Machine.execLinShort at_ c s
  | .linFaultRetry at_ c recessive => Sys2Proof.Machine.execLinFaultRetry at_ c recessive s
  | .linRxbufWord0Read at_ c id m => Sys2Proof.Machine.execLinRxbufWord0Read at_ c id m s
  | .linRxbufLastWordRead at_ c id m => Sys2Proof.Machine.execLinRxbufLastWordRead at_ c id m s
  | .linWakePulse at_ c => Sys2Proof.Machine.execLinWakePulse at_ c s
  | .t1sTx c => Sys2Proof.Machine.execT1sTx c s
  | .t1sRead c => Sys2Proof.Machine.execT1sRead c s
  | .tsqRead c => Sys2Proof.Machine.execTsqRead c s
  | .t1sCtrl c => Sys2Proof.Machine.execT1sCtrl c s
  | .timeGet c => Sys2Proof.Machine.execTimeGet c s
  | .timeAdjust c => Sys2Proof.Machine.execTimeAdjust c s
  | .t1sPortStarted at_ p => Sys2Proof.Machine.execT1sPortStarted at_ p s
  | .t1sFrameReceived at_ p bytes fcsOk sinceSfd => Sys2Proof.Machine.execT1sFrameReceived at_ p bytes fcsOk sinceSfd s
  | .t1sFrameSent at_ p e collisions sinceSfd => Sys2Proof.Machine.execT1sFrameSent at_ p e collisions sinceSfd s
  | .plcaBeaconTimeout at_ p => Sys2Proof.Machine.execPlcaBeaconTimeout at_ p s
  | .plcaBeaconReceived at_ p => Sys2Proof.Machine.execPlcaBeaconReceived at_ p s
  | .syncTimeout at_ j => Sys2Proof.Machine.execSyncTimeout at_ j s
  | .nmRequestSleep c => Sys2Proof.Machine.execNmRequestSleep c s
  | .nmStayAwake c => Sys2Proof.Machine.execNmStayAwake c s
  | .nmStatus c => Sys2Proof.Machine.execNmStatus c s
  | .ringFrameReceived at_ a dest ty b e => Sys2Proof.Machine.execRingFrameReceived at_ a dest ty b e s
  | .ringFrameSent at_ e => Sys2Proof.Machine.execRingFrameSent at_ e s
  | .tokenHoldElapsed at_ => Sys2Proof.Machine.execTokenHoldElapsed at_ s
  | .successorTimeout at_ => Sys2Proof.Machine.execSuccessorTimeout at_ s
  | .tokenTimeout at_ => Sys2Proof.Machine.execTokenTimeout at_ s
  | .waitBeforeSleepElapsed at_ => Sys2Proof.Machine.execWaitBeforeSleepElapsed at_ s
  | .networkWakeCause at_ cause src => Sys2Proof.Machine.execNetworkWakeCause at_ cause src s
  | .wakelOutsideRise at_ => Sys2Proof.Machine.execWakelOutsideRise at_ s
  | .wakelPulseEnd at_ => Sys2Proof.Machine.execWakelPulseEnd at_ s
  | .netmgrFailSafe at_ => Sys2Proof.Machine.execNetmgrFailSafe at_ s
  | .accStatus c => Sys2Proof.Machine.execAccStatus c s
  | .accChallenge c => Sys2Proof.Machine.execAccChallenge c s
  | .accChallengeDone at_ a b => Sys2Proof.Machine.execAccChallengeDone at_ a b s
  | .accEnrol c => Sys2Proof.Machine.execAccEnrol c s
  | .accDealerCode c => Sys2Proof.Machine.execAccDealerCode c s
  | .accRevoke c => Sys2Proof.Machine.execAccRevoke c s
  | .keyStoreWriteDone at_ o => Sys2Proof.Machine.execKeyStoreWriteDone at_ o s
  | .accSessionEnd c => Sys2Proof.Machine.execAccSessionEnd c s
  | .telegramReceived at_ bytes t => Sys2Proof.Machine.execTelegramReceived at_ bytes t s
  | .telegramAccepted at_ o => Sys2Proof.Machine.execTelegramAccepted at_ o s
  | .sessionTimeout at_ => Sys2Proof.Machine.execSessionTimeout at_ s
  | .throttleEnd at_ => Sys2Proof.Machine.execThrottleEnd at_ s
  | .resyncCandidateExpiry at_ n => Sys2Proof.Machine.execResyncCandidateExpiry at_ n s
  | .pendingSlotExpiry at_ n => Sys2Proof.Machine.execPendingSlotExpiry at_ n s
  | .dealerWindowClose at_ => Sys2Proof.Machine.execDealerWindowClose at_ s
  | .dealerLockoutEnd at_ => Sys2Proof.Machine.execDealerLockoutEnd at_ s
  | .appletLoadBegin c => Sys2Proof.Machine.execAppletLoadBegin c s
  | .appletLoadCode c => Sys2Proof.Machine.execAppletLoadCode c s
  | .appletLoadCommit c => Sys2Proof.Machine.execAppletLoadCommit c s
  | .appletStoreWritten at_ n o => Sys2Proof.Machine.execAppletStoreWritten at_ n o s
  | .appletUnload c => Sys2Proof.Machine.execAppletUnload c s
  | .appletStart c => Sys2Proof.Machine.execAppletStart c s
  | .appletStop c => Sys2Proof.Machine.execAppletStop c s
  | .appletStatus c => Sys2Proof.Machine.execAppletStatus c s
  | .appletPrecede c => Sys2Proof.Machine.execAppletPrecede c s
  | .faultStatus c => Sys2Proof.Machine.execFaultStatus c s
  | .faultCapture c => Sys2Proof.Machine.execFaultCapture c s
  | .faultClear c => Sys2Proof.Machine.execFaultClear c s
  | .faultNotify c => Sys2Proof.Machine.execFaultNotify c s
  | .faultTest c => Sys2Proof.Machine.execFaultTest c s
  | .faultWindowClose at_ n => Sys2Proof.Machine.execFaultWindowClose at_ n s
  | .recoveryExit at_ => Sys2Proof.Machine.execRecoveryExit at_ s
  | .busLockLeaseExpiry at_ l => Sys2Proof.Machine.execBusLockLeaseExpiry at_ l s
  | .enterPark c => Sys2Proof.Machine.execEnterPark c s
  | .enterCellar c => Sys2Proof.Machine.execEnterCellar c s
  | .entryDelayLimit at_ => Sys2Proof.Machine.execEntryDelayLimit at_ s
  | .drainComplete at_ => Sys2Proof.Machine.execDrainComplete at_ s
  | .drainTimeout at_ => Sys2Proof.Machine.execDrainTimeout at_ s
  | .handOver at_ => Sys2Proof.Machine.execHandOver at_ s
  | .parkCommit at_ => Sys2Proof.Machine.execParkCommit at_ s
  | .cellarCommit at_ => Sys2Proof.Machine.execCellarCommit at_ s
  | .wakeSourceFired at_ codes index cycles => Sys2Proof.Machine.execWakeSourceFired at_ codes index cycles s
  | .parkExit at_ b => Sys2Proof.Machine.execParkExit at_ b s
  | .cellarWake at_ codes => Sys2Proof.Machine.execCellarWake at_ codes s
  | .holdConfirm c => Sys2Proof.Machine.execHoldConfirm c s
  | .blockReset c => Sys2Proof.Machine.execBlockReset c s
  | .peek c => Sys2Proof.Machine.execPeek c s
  | .poke c => Sys2Proof.Machine.execPoke c s
  | .blockRstWrite at_ m w => Sys2Proof.Machine.execBlockRstWrite at_ m w s
  | .blockGateReopen at_ b => Sys2Proof.Machine.execBlockGateReopen at_ b s
  | .registerWrite at_ m addr v => Sys2Proof.Machine.execRegisterWrite at_ m addr v s
  | .lowWordRead at_ m addr => Sys2Proof.Machine.execLowWordRead at_ m addr s
  | .fieldEdgeTRead at_ m n => Sys2Proof.Machine.execFieldEdgeTRead at_ m n s
  | .swinChgRead at_ m hi => Sys2Proof.Machine.execSwinChgRead at_ m hi s
  | .fieldChgRead at_ m => Sys2Proof.Machine.execFieldChgRead at_ m s
  | .faultPendWrite at_ m j v => Sys2Proof.Machine.execFaultPendWrite at_ m j v s
  | .memintInjectWrite at_ m v => Sys2Proof.Machine.execMemintInjectWrite at_ m v s
  | .copCrcWrite at_ m v => Sys2Proof.Machine.execCopCrcWrite at_ m v s
  | .copCrcInWrite at_ m v => Sys2Proof.Machine.execCopCrcInWrite at_ m v s
  | .copAesStart at_ m v => Sys2Proof.Machine.execCopAesStart at_ m v s
  | .aesComplete at_ => Sys2Proof.Machine.execAesComplete at_ s
  | .scrubRead at_ pace f syn p => Sys2Proof.Machine.execScrubRead at_ pace f syn p s
  | .rowReplacement at_ => Sys2Proof.Machine.execRowReplacement at_ s
  | .flashRefresh at_ => Sys2Proof.Machine.execFlashRefresh at_ s
  | .ledgerRewriteDone at_ => Sys2Proof.Machine.execLedgerRewriteDone at_ s
  | .add rd ra rb => Sys2Proof.Machine.execAdd rd ra rb s
  | .sub rd ra rb => Sys2Proof.Machine.execSub rd ra rb s
  | .and_ rd ra rb => Sys2Proof.Machine.execAnd rd ra rb s
  | .or_ rd ra rb => Sys2Proof.Machine.execOr rd ra rb s
  | .xor_ rd ra rb => Sys2Proof.Machine.execXor rd ra rb s
  | .shl rd ra rb => Sys2Proof.Machine.execShl rd ra rb s
  | .shr rd ra rb => Sys2Proof.Machine.execShr rd ra rb s
  | .sar rd ra rb => Sys2Proof.Machine.execSar rd ra rb s
  | .mul rd ra rb => Sys2Proof.Machine.execMul rd ra rb s
  | .mulh rd ra rb => Sys2Proof.Machine.execMulh rd ra rb s
  | .mulhu rd ra rb => Sys2Proof.Machine.execMulhu rd ra rb s
  | .div rd ra rb => Sys2Proof.Machine.execDiv rd ra rb s
  | .divu rd ra rb => Sys2Proof.Machine.execDivu rd ra rb s
  | .rem rd ra rb => Sys2Proof.Machine.execRem rd ra rb s
  | .remu rd ra rb => Sys2Proof.Machine.execRemu rd ra rb s
  | .min_ rd ra rb => Sys2Proof.Machine.execMin rd ra rb s
  | .max_ rd ra rb => Sys2Proof.Machine.execMax rd ra rb s
  | .minu rd ra rb => Sys2Proof.Machine.execMinu rd ra rb s
  | .maxu rd ra rb => Sys2Proof.Machine.execMaxu rd ra rb s
  | .seq rd ra rb => Sys2Proof.Machine.execSeq rd ra rb s
  | .sne rd ra rb => Sys2Proof.Machine.execSne rd ra rb s
  | .slt rd ra rb => Sys2Proof.Machine.execSlt rd ra rb s
  | .sltu rd ra rb => Sys2Proof.Machine.execSltu rd ra rb s
  | .sle rd ra rb => Sys2Proof.Machine.execSle rd ra rb s
  | .sleu rd ra rb => Sys2Proof.Machine.execSleu rd ra rb s
  | .addi rd ra imm => Sys2Proof.Machine.execAddi rd ra imm s
  | .andi rd ra imm => Sys2Proof.Machine.execAndi rd ra imm s
  | .ori rd ra imm => Sys2Proof.Machine.execOri rd ra imm s
  | .xori rd ra imm => Sys2Proof.Machine.execXori rd ra imm s
  | .shli rd ra sh => Sys2Proof.Machine.execShli rd ra sh s
  | .shri rd ra sh => Sys2Proof.Machine.execShri rd ra sh s
  | .sari rd ra sh => Sys2Proof.Machine.execSari rd ra sh s
  | .seqi rd ra imm => Sys2Proof.Machine.execSeqi rd ra imm s
  | .slti rd ra imm => Sys2Proof.Machine.execSlti rd ra imm s
  | .sltui rd ra imm => Sys2Proof.Machine.execSltui rd ra imm s
  | .lui rd imm => Sys2Proof.Machine.execLui rd imm s
  | .ldw rd ra seg imm => Sys2Proof.Machine.execLdw rd ra seg imm s
  | .ldh rd ra seg imm => Sys2Proof.Machine.execLdh rd ra seg imm s
  | .ldhu rd ra seg imm => Sys2Proof.Machine.execLdhu rd ra seg imm s
  | .ldb rd ra seg imm => Sys2Proof.Machine.execLdb rd ra seg imm s
  | .ldbu rd ra seg imm => Sys2Proof.Machine.execLdbu rd ra seg imm s
  | .stw rd ra seg imm => Sys2Proof.Machine.execStw rd ra seg imm s
  | .sth rd ra seg imm => Sys2Proof.Machine.execSth rd ra seg imm s
  | .stb rd ra seg imm => Sys2Proof.Machine.execStb rd ra seg imm s
  | .push rd => Sys2Proof.Machine.execPush rd s
  | .pop rd => Sys2Proof.Machine.execPop rd s
  | .dspadj imm => Sys2Proof.Machine.execDspadj imm s
  | .dspget rd => Sys2Proof.Machine.execDspget rd s
  | .dspset ra => Sys2Proof.Machine.execDspset ra s
  | .rdfeat rd imm => Sys2Proof.Machine.execRdfeat rd imm s
  | .mfs rd imm => Sys2Proof.Machine.execMfs rd imm s
  | .bz rt disp => Sys2Proof.Machine.execBz rt disp s
  | .bnz rt disp => Sys2Proof.Machine.execBnz rt disp s
  | .call disp => Sys2Proof.Machine.execCall disp s
  | .callr ra => Sys2Proof.Machine.execCallr ra s
  | .jr ra => Sys2Proof.Machine.execJr ra s
  | .ret => Sys2Proof.Machine.execRet s
  | .svc n => Sys2Proof.Machine.execSvc n s
  | .yield => Sys2Proof.Machine.execYield s
  | .break imm => Sys2Proof.Machine.execBreak imm s
  | .qmul rd ra rb f => Sys2Proof.Machine.execQmul rd ra rb f s
  | .qdiv rd ra rb f => Sys2Proof.Machine.execQdiv rd ra rb f s
  | .qadd rd ra rb => Sys2Proof.Machine.execQadd rd ra rb s
  | .qsub rd ra rb => Sys2Proof.Machine.execQsub rd ra rb s
  | .sat rd ra n => Sys2Proof.Machine.execSat rd ra n s
  | .satu rd ra n => Sys2Proof.Machine.execSatu rd ra n s
  | .qabs rd ra => Sys2Proof.Machine.execQabs rd ra s
  | .isqrt rd ra => Sys2Proof.Machine.execIsqrt rd ra s
  | .aclr => Sys2Proof.Machine.execAclr s
  | .mac ra rb => Sys2Proof.Machine.execMac ra rb s
  | .msu ra rb => Sys2Proof.Machine.execMsu ra rb s
  | .ard rd f => Sys2Proof.Machine.execArd rd f s
  | .ardl rd => Sys2Proof.Machine.execArdl rd s
  | .ardh rd => Sys2Proof.Machine.execArdh rd s
  | .awr ra rb => Sys2Proof.Machine.execAwr ra rb s
  | .crci ra => Sys2Proof.Machine.execCrci ra s
  | .crcw ra => Sys2Proof.Machine.execCrcw ra s
  | .crcb ra => Sys2Proof.Machine.execCrcb ra s
  | .crcr rd => Sys2Proof.Machine.execCrcr rd s
  | .akey ra j => Sys2Proof.Machine.execAkey ra j s
  | .ain ra j => Sys2Proof.Machine.execAin ra j s
  | .aenc => Sys2Proof.Machine.execAenc s
  | .aout rd j => Sys2Proof.Machine.execAout rd j s
  | .readIn => Sys2Proof.Machine.execReadIn s
  | .inChg => Sys2Proof.Machine.execInChg s
  | .result => Sys2Proof.Machine.execResult s
  | .diag => Sys2Proof.Machine.execDiag s
  | .sense => Sys2Proof.Machine.execSense s
  | .fieldIn => Sys2Proof.Machine.execFieldIn s
  | .tickTime => Sys2Proof.Machine.execTickTime s
  | .svcAccStat => Sys2Proof.Machine.execSvcAccStat s
  | .request => Sys2Proof.Machine.execRequest s
  | .requestBuf => Sys2Proof.Machine.execRequestBuf s
  | .canReceiveError at_ k lec rec => Sys2Proof.Machine.execCanReceiveError at_ k lec rec s
  | .linHeaderReceived at_ c pid sync => Sys2Proof.Machine.execLinHeaderReceived at_ c pid sync s
  | .linBusInactivity at_ c => Sys2Proof.Machine.execLinBusInactivity at_ c s
  | .linBufferLeaseExpiry at_ c id => Sys2Proof.Machine.execLinBufferLeaseExpiry at_ c id s
  | .linIdleAfterWake at_ c => Sys2Proof.Machine.execLinIdleAfterWake at_ c s

end Sys2Proof.Machine
end

