-- ==== Sys2Proof/Certificates/Slice0/Obligations.lean ====
section
/-! DEFINITION. The statements put to the provers: `Obligations.<Name>`. `Claims` holds the few words they
share. -/

namespace Sys2Proof.Claims

open Sys2Proof.Machine

/-- The command completes from s with a next state that has P. -/
def Ends (i : Instr) (s : State) (P : State → Prop) : Prop := ∃ t, exec i s = .next t ∧ P t

/-! ### The applet core -/

/-- The core issues the next instruction: it is not in a run whose budget is used up (R406). -/
def issues (s : State) : Prop := s.core.run = .running → s.core.cycles < s.core.budget

/-- s with v in rd (g0 discards it), one instruction further, n cycles later (R392, R406). -/
def wrote (s : State) (rd : Fin 16) (v : Word) (n : Nat) : State :=
  { s with core := { s.core with
      g := if rd = 0 then s.core.g else s.core.g.set rd v
      pc := s.core.pc + 4, cycles := s.core.cycles + n } }

/-- s with the coprocessor's applet bank b, one instruction further, 1 cycle later. -/
def banked (s : State) (b : CopBank) : State :=
  { s with core := { s.core with cop := b, pc := s.core.pc + 4, cycles := s.core.cycles + 1 } }

/-- The nearest value of n signed bits. -/
def clampTo (n : Nat) (v : Int) : Int :=
  if v < -(2 ^ (n - 1)) then -(2 ^ (n - 1)) else if 2 ^ (n - 1) - 1 < v then 2 ^ (n - 1) - 1 else v

/-- A byte of SB4 or SB5 as it reads: 0 where nothing has written it (R12, R460). -/
def sbyte (s : State) (a : Nat) : Byte := (kvGet s.mem.bytes a).getD 0

/-- The word of SB4 or SB5 at a multiple of 4 carries no injected error and no poison (R450, R453). -/
def sound (s : State) (a : Nat) : Prop :=
  0x20040000 ≤ a ∧ a < 0x20060000 ∧ kvGet s.mem.inj (a / 4 * 4) = none ∧ a / 4 * 4 ∉ s.mem.poison

/-- The checks of R397 pass for an access of n bytes at offset o of segment k, which stands word-aligned in
SB4 or SB5 and names plain memory. -/
def reachable (s : State) (k : Fin 8) (write : Bool) (o n : Nat) : Prop :=
  k ≠ 6 ∧ (if write then (s.segd k).w else (s.segd k).r) = true ∧ (s.segd k).io = false ∧ o % n = 0 ∧
  o + n ≤ (s.segd k).limit ∧ (s.segd k).base % 4 = 0 ∧ (s.segd k).base + o < 2 ^ 32 ∧
  sound s ((s.segd k).base + o)

/-- Offset of a load or store: ra + sext(imm15), modulo 2^32 (R398). -/
def offsetOf (s : State) (ra : Fin 16) (imm : BitVec 15) : Nat :=
  (s.gr ra + BitVec.ofInt 32 imm.toInt).toNat

/-- s with the n lowest bytes of v at a, and with nothing else changed but the core, the memories' own
bookkeeping of that write, and no byte outside. -/
def stored (s t : State) (a n : Nat) (v : Word) : Prop :=
  (∀ b, sbyte t b = if a ≤ b ∧ b < a + n then byteOf v (b - a) else sbyte s b) ∧
  t.core.g = s.core.g ∧ t = { s with core := t.core, mem := t.mem }

/-! ### Host commands -/

/-- The command passes checks 4 to 6 of R125 and stage 1 of R160, in Run after the first racking. -/
def served (s : State) (op : Nat) (c : HostCmd) : Prop :=
  s.inRun = true ∧ s.pwr.woken = false ∧ s.arrivalStatus op c = none ∧ s.targetStands op c = true

/-- r is the reply to c: FINAL, with the status, and with `ws` from word 2 on. -/
def isReply (r : Reply) (s : State) (op : Nat) (c : HostCmd) (st : Nat) (ws : List Word) : Prop :=
  r.num = s.link.nextNum ∧ r.seq = c.seq ∧ r.op = op ∧ r.node = c.node ∧ r.status = st ∧ r.flags % 2 = 1 ∧
  r.payload = ws

/-- t is u with one reply more, behind all others, with `ws` from word 2 on. -/
def answeredWith (u t : State) (op : Nat) (c : HostCmd) (st : Nat) (ws : List Word) : Prop :=
  t = { u with link := t.link, evSeq := u.evSeq + 1 } ∧
  ∃ r, t.link.replies ++ t.link.held = u.link.replies ++ u.link.held ++ [r] ∧ isReply r u op c st ws

/-- The same with a word 2 that names the present frame (R142). -/
def answered (u t : State) (op : Nat) (c : HostCmd) (st : Nat) (ws : List Word) : Prop :=
  answeredWith u t op c st (BitVec.ofNat 32 u.clk.tickCount :: ws)

/-- A short reply enters the queue at once. -/
def roomy (s : State) : Prop := s.link.held = [] ∧ s.link.replies.length < 64 ∧ s.link.bytes ≤ 12000

/-- s with the vat lease running from now (R167). -/
def released (s : State) : State := { s with vat := { s.vat with leaseFrom := s.now } }

/-- t is u after an output-setting command: one reply more, behind all others, and the engine's own record
of the set-points of this racking. -/
def acted (u t : State) (op : Nat) (c : HostCmd) (st : Nat) (ws : List Word) : Prop :=
  t = { u with link := t.link, evSeq := u.evSeq + 1
               eng := { u.eng with rackSets := t.eng.rackSets, hostNodes := t.eng.hostNodes } } ∧
  ∃ l r, t.link.replies ++ t.link.held = l ++ [r] ∧ l.length = (u.link.replies ++ u.link.held).length ∧
    isReply r u op c st (BitVec.ofNat 32 u.clk.tickCount :: ws)

/-- t is u with the command among those answered at a later racking (R144). -/
def later (u t : State) (op : Nat) (c : HostCmd) (w : WaitFor) : Prop :=
  t = { u with eng := { u.eng with
    outst := u.eng.outst ++ [⟨u.eng.nextTicket, op, c, u.clk.tickCount, w, none⟩]
    nextTicket := u.eng.nextTicket + 1 } }

/-! ### Load channels -/

/-- b is channel a with no change but the record of what its output has done up to now (R179, R184, R190). -/
def looked (a b : LoadCh) : Prop :=
  b = { a with chgAt := b.chgAt, lastLev := b.lastLev, edgeAt := b.edgeAt, smp := b.smp, clipAcc := b.clipAcc }

/-- The same with the notes that its gate was on in this frame (R206). -/
def noted (a b : LoadCh) : Prop :=
  b = { a with chgAt := b.chgAt, lastLev := b.lastLev, edgeAt := b.edgeAt, smp := b.smp, clipAcc := b.clipAcc
               onFrame := b.onFrame, onSince := b.onSince, drv := b.drv }

/-! ### Fault sources -/

/-- No fault source whose reaction can be set has one above INTERRUPT (R432). -/
def mild (s : State) : Prop := ∀ i, i < 0x5E → fixedReact i = none → s.faultReact i ≤ 1

/-! ### Resets and events -/

/-- t is u after a warm reset with a cause bit (R66, R73): start-up begins, the hold-class load channels are with
their keepers, and registers, outputs, memories, queues, sessions and the core are at their Reset values; the
staged registers that the register tables keep, the stored images, the fault counts, the ledger and the fuses
stay. -/
def warmed (u t : State) (causeBit : Nat) : Prop :=
  t.pwr.phase = .startup ∧ t.pwr.powerOn = false ∧ t.pwr.booted = false ∧
  t.pwr.rstCause = u.pwr.rstCause ||| (1 <<< causeBit) ∧
  t.regs = keptRegs u.regs ∧ t.svc = t.regs ∧ t.live.regs = t.regs ∧ t.live.casks = [] ∧
  t.vat.st = .closed ∧ t.vat.stored = u.vat.stored ∧ t.mem.bytes = [] ∧ t.eng = default ∧
  t.link.replies = [] ∧ t.link.held = [] ∧ t.core = coreReset ∧ t.acc.session = none ∧
  t.flt.src = u.flt.src ∧ t.flt.st = .start ∧ t.flt.safe = true ∧ t.feat = u.feat ∧
  t.clk.tickNs = u.clk.tickNs ∧ t.clk.phase = u.clk.phase ∧
  (∀ n, n < 48 → (t.ch n).act = setPtReset ∧ (t.ch n).keeper.held = ((u.ch n).keeper.held || u.holdClass n)) ∧
  (∀ n, n < 8 → t.vl n = valveReset)

/-- t is u with one event of a source more: its total one higher, no other source changed, and nothing outside the
collector (R428-R431). -/
def counted (u t : State) (src : Nat) : Prop :=
  t = { u with flt := t.flt } ∧ (t.src src).total = satInc (u.src src).total 255 ∧
  ∀ i, i ≠ src → t.src i = u.src i

/-- In Run after the first racking, with no source above INTERRUPT: an event is counted at once (R432, R485). -/
def calm (s : State) : Prop := s.inRun = true ∧ s.pwr.woken = false ∧ s.flt.owed = [] ∧ mild s

/-- The master's word access reaches its register or memory: it is neither absent, gated, out of the master's reach
nor undecoded (R13-R18, R37, R105). -/
def opens (s : State) (m : Master) (wr : Bool) (a : Nat) : Prop :=
  s.running = true ∧ s.outOfSegs m wr a = false ∧ s.accessStop { m := m.id, kind := b2n wr, size := 2 } a wr = none

end Sys2Proof.Claims

open Sys2Proof Sys2Proof.Machine Sys2Proof.Claims


/-! ### XK32: arithmetic (R401) -/

/-- ADD, SUB, AND, OR, XOR and the shifts, by rb mod 32, and the multiplications and divisions (R401): the high halves
of the 64-bit products, quotients and remainders cut towards zero, and their fixed results for a divisor of 0. rd takes
the result, and nothing else of the machine changes but PC and the cycle count. -/
def Obligations.XkRegisterArithmeticResults : Prop :=
  (∀ (s : State) (rd ra rb : Fin 16), issues s →
    exec (.add rd ra rb) s = .next (wrote s rd (s.gr ra + s.gr rb) 1) ∧
    exec (.sub rd ra rb) s = .next (wrote s rd (s.gr ra - s.gr rb) 1) ∧
    exec (.and_ rd ra rb) s = .next (wrote s rd (s.gr ra &&& s.gr rb) 1) ∧
    exec (.or_ rd ra rb) s = .next (wrote s rd (s.gr ra ||| s.gr rb) 1) ∧
    exec (.xor_ rd ra rb) s = .next (wrote s rd (s.gr ra ^^^ s.gr rb) 1) ∧
    exec (.shl rd ra rb) s = .next (wrote s rd (s.gr ra <<< (s.gr rb % 32).toNat) 1) ∧
    exec (.shr rd ra rb) s = .next (wrote s rd (s.gr ra >>> (s.gr rb % 32).toNat) 1) ∧
    exec (.sar rd ra rb) s = .next (wrote s rd ((s.gr ra).sshiftRight (s.gr rb % 32).toNat) 1)) ∧
  (∀ (s : State) (rd ra rb : Fin 16), issues s →
    let a := s.gr ra
    let b := s.gr rb
    exec (.mul rd ra rb) s = .next (wrote s rd (a * b) 2) ∧
    exec (.mulh rd ra rb) s =
      .next (wrote s rd ((a.signExtend 64 * b.signExtend 64).extractLsb' 32 32) 2) ∧
    exec (.mulhu rd ra rb) s =
      .next (wrote s rd ((a.setWidth 64 * b.setWidth 64).extractLsb' 32 32) 2) ∧
    exec (.div rd ra rb) s = .next (wrote s rd (if b = 0 then 0xFFFFFFFF else a.sdiv b) 34) ∧
    exec (.divu rd ra rb) s = .next (wrote s rd (if b = 0 then 0xFFFFFFFF else a / b) 34) ∧
    exec (.rem rd ra rb) s = .next (wrote s rd (if b = 0 then a else a.srem b) 34) ∧
    exec (.remu rd ra rb) s = .next (wrote s rd (if b = 0 then a else a % b) 34))


/-- Minimum and maximum, and the comparisons, which give 1 or 0; the immediate forms: ADDI, SEQI, SLTI and SLTUI extend
the sign of imm18, ANDI, ORI and XORI extend with zeros, the shifts take a 5-bit count, LUI fills the upper half
(R400, R401). -/
def Obligations.XkCompareAndImmediateResults : Prop :=
  (∀ (s : State) (rd ra rb : Fin 16), issues s →
    let a := s.gr ra
    let b := s.gr rb
    exec (.min_ rd ra rb) s = .next (wrote s rd (BitVec.ofInt 32 (min a.toInt b.toInt)) 1) ∧
    exec (.max_ rd ra rb) s = .next (wrote s rd (BitVec.ofInt 32 (max a.toInt b.toInt)) 1) ∧
    exec (.minu rd ra rb) s = .next (wrote s rd (BitVec.ofNat 32 (min a.toNat b.toNat)) 1) ∧
    exec (.maxu rd ra rb) s = .next (wrote s rd (BitVec.ofNat 32 (max a.toNat b.toNat)) 1) ∧
    exec (.seq rd ra rb) s = .next (wrote s rd (if a = b then 1 else 0) 1) ∧
    exec (.sne rd ra rb) s = .next (wrote s rd (if a = b then 0 else 1) 1) ∧
    exec (.slt rd ra rb) s = .next (wrote s rd (if a.toInt < b.toInt then 1 else 0) 1) ∧
    exec (.sltu rd ra rb) s = .next (wrote s rd (if a.toNat < b.toNat then 1 else 0) 1) ∧
    exec (.sle rd ra rb) s = .next (wrote s rd (if a.toInt ≤ b.toInt then 1 else 0) 1) ∧
    exec (.sleu rd ra rb) s = .next (wrote s rd (if a.toNat ≤ b.toNat then 1 else 0) 1)) ∧
  (∀ (s : State) (rd ra : Fin 16) (imm : BitVec 18) (sh : BitVec 5) (hi : BitVec 16), issues s →
    let a := s.gr ra
    exec (.addi rd ra imm) s = .next (wrote s rd (a + BitVec.ofInt 32 imm.toInt) 1) ∧
    exec (.andi rd ra imm) s = .next (wrote s rd (a &&& BitVec.ofNat 32 imm.toNat) 1) ∧
    exec (.ori rd ra imm) s = .next (wrote s rd (a ||| BitVec.ofNat 32 imm.toNat) 1) ∧
    exec (.xori rd ra imm) s = .next (wrote s rd (a ^^^ BitVec.ofNat 32 imm.toNat) 1) ∧
    exec (.shli rd ra sh) s = .next (wrote s rd (a <<< sh.toNat) 1) ∧
    exec (.shri rd ra sh) s = .next (wrote s rd (a >>> sh.toNat) 1) ∧
    exec (.sari rd ra sh) s = .next (wrote s rd (a.sshiftRight sh.toNat) 1) ∧
    exec (.seqi rd ra imm) s = .next (wrote s rd (if a = BitVec.ofInt 32 imm.toInt then 1 else 0) 1) ∧
    exec (.slti rd ra imm) s = .next (wrote s rd (if a.toInt < imm.toInt then 1 else 0) 1) ∧
    exec (.sltui rd ra imm) s =
      .next (wrote s rd (if a.toNat < (BitVec.ofInt 32 imm.toInt).toNat then 1 else 0) 1) ∧
    exec (.lui rd hi) s = .next (wrote s rd (BitVec.ofNat 32 (65536 * hi.toNat)) 1))


/-! ### XK32: memory, stacks, control (R397-R408) -/

/-- The loads and stores (R398). A load from any offset that passes the checks of R397 reads the bytes of the memory,
lowest first, with the sign or zeros in front, and changes nothing but rd, PC and the cycle count; after a store the
low bytes of rd stand at the address, every other byte and every register is as before, and PC moves on. -/
def Obligations.XkLoadsAndStores : Prop :=
  (∀ (s : State) (rd ra : Fin 16) (k : Fin 8) (imm : BitVec 15), issues s →
    let o := offsetOf s ra imm
    let a := (s.segd k).base + o
    (reachable s k false o 4 →
      exec (.ldw rd ra k imm) s =
        .next (wrote s rd (sbyte s (a + 3) ++ sbyte s (a + 2) ++ sbyte s (a + 1) ++ sbyte s a) 2)) ∧
    (reachable s k false o 2 →
      exec (.ldh rd ra k imm) s = .next (wrote s rd ((sbyte s (a + 1) ++ sbyte s a).signExtend 32) 2) ∧
      exec (.ldhu rd ra k imm) s = .next (wrote s rd ((sbyte s (a + 1) ++ sbyte s a).setWidth 32) 2)) ∧
    (reachable s k false o 1 →
      exec (.ldb rd ra k imm) s = .next (wrote s rd ((sbyte s a).signExtend 32) 2) ∧
      exec (.ldbu rd ra k imm) s = .next (wrote s rd ((sbyte s a).setWidth 32) 2))) ∧
  (∀ (s : State) (rd ra : Fin 16) (k : Fin 8) (imm : BitVec 15), issues s → memWf s.mem.bytes = true →
    let o := offsetOf s ra imm
    let a := (s.segd k).base + o
    (reachable s k true o 4 → Ends (.stw rd ra k imm) s (fun t =>
      stored s t a 4 (s.gr rd) ∧ t.core.pc = s.core.pc + 4 ∧ t.core.cycles = s.core.cycles + 1)) ∧
    (reachable s k true o 2 → Ends (.sth rd ra k imm) s (fun t =>
      stored s t a 2 (s.gr rd) ∧ t.core.pc = s.core.pc + 4 ∧ t.core.cycles = s.core.cycles + 1)) ∧
    (reachable s k true o 1 → Ends (.stb rd ra k imm) s (fun t =>
      stored s t a 1 (s.gr rd) ∧ t.core.pc = s.core.pc + 4 ∧ t.core.cycles = s.core.cycles + 1)))


/-- PUSH and POP work on S1 at DSP, DSPADJ, DSPSET and DSPGET on DSP alone (R402). -/
def Obligations.XkDataStack : Prop :=
  ∀ (s : State) (rd ra : Fin 16) (imm : BitVec 16), issues s → memWf s.mem.bytes = true →
    (reachable s 1 true (s.core.dsp - 4).toNat 4 → Ends (.push rd) s (fun t =>
      stored s t ((s.segd 1).base + (s.core.dsp - 4).toNat) 4 (s.gr rd) ∧ t.core.dsp = s.core.dsp - 4 ∧
      t.core.pc = s.core.pc + 4)) ∧
    (reachable s 1 false s.core.dsp.toNat 4 → Ends (.pop rd) s (fun t =>
      let a := (s.segd 1).base + s.core.dsp.toNat
      t = wrote { s with core := { s.core with dsp := s.core.dsp + 4 } } rd
        (sbyte s (a + 3) ++ sbyte s (a + 2) ++ sbyte s (a + 1) ++ sbyte s a) 2)) ∧
    exec (.dspadj imm) s =
      .next (wrote { s with core := { s.core with dsp := s.core.dsp + BitVec.ofInt 32 (4 * imm.toInt) } } 0 0 1) ∧
    exec (.dspset ra) s =
      .next (wrote { s with core := { s.core with dsp := s.gr ra - s.gr ra % 4 } } 0 0 1) ∧
    exec (.dspget rd) s = .next (wrote s rd s.core.dsp 1)

/-- BZ, BNZ, JR, CALL, CALLR, RET and YIELD (R402, R403): where PC goes and what stands on the return
stack. A CALL with room in the core pushes PC + 4, a RET takes the newest entry, and a RET with nothing left
and a YIELD end the run. -/
def Obligations.XkControlFlow : Prop :=
  ∀ (s : State) (rt ra : Fin 16) (d : BitVec 22) (far : BitVec 26) (x : Word) (rest : List Word), issues s →
    let goes := fun (v : Word) (rs : List Word) =>
      { s with core := { s.core with pc := v - v % 4, rs := rs, cycles := s.core.cycles + 2 } }
    let near := s.core.pc + BitVec.ofInt 32 (4 * d.toInt)
    exec (.bz rt d) s = .next (if s.gr rt = 0 then goes near s.core.rs else wrote s 0 0 1) ∧
    exec (.bnz rt d) s = .next (if s.gr rt = 0 then wrote s 0 0 1 else goes near s.core.rs) ∧
    exec (.jr ra) s = .next (goes (s.gr ra) s.core.rs) ∧
    (s.core.rs.length < 64 →
      exec (.call far) s =
        .next (goes (s.core.pc + BitVec.ofInt 32 (4 * far.toInt)) ((s.core.pc + 4) :: s.core.rs)) ∧
      exec (.callr ra) s = .next (goes (s.gr ra) ((s.core.pc + 4) :: s.core.rs))) ∧
    (s.core.rs = x :: rest → exec .ret s = .next (goes x rest)) ∧
    (s.core.rs = [] → s.core.spilled = 0 →
      exec .ret s = .next { s with core := { s.core with run := .returned, cycles := s.core.cycles + 2 } }) ∧
    exec .yield s = .next { s with core := { s.core with run := .yielded, cycles := s.core.cycles + 1 } }

/-- MFS reads the special registers of R405, any other number traps with ILLEGAL, and RDFEAT reads the FEATURE window through S7 (R34, R401). -/
def Obligations.XkSpecialRegisters : Prop :=
  ∀ (s : State) (rd : Fin 16) (n : BitVec 18), issues s →
    exec (.mfs rd 0) s = .next (wrote s rd (BitVec.ofNat 32 s.core.cycles) 1) ∧
    exec (.mfs rd 1) s = .next (wrote s rd (BitVec.ofNat 32 (s.core.budget - s.core.cycles)) 1) ∧
    exec (.mfs rd 2) s = .next (wrote s rd (BitVec.ofNat 32 s.core.slot) 1) ∧
    exec (.mfs rd 3) s = .next (wrote s rd (BitVec.ofNat 32 s.clk.tickCount) 1) ∧
    exec (.mfs rd 4) s = .next (wrote s rd (BitVec.ofNat 32 s.clk.tickNs) 1) ∧
    exec (.mfs rd 5) s = .next (wrote s rd (BitVec.ofNat 32 (s.core.rs.length + s.core.spilled)) 1) ∧
    exec (.mfs rd 6) s = .next (wrote s rd (if hasCopro s.var = true then 0x10001 else 1) 1) ∧
    (6 < n.toNat → mild s → s.core.slot < 8 → Ends (.mfs rd n) s (fun t =>
      t.core.run = .trapped ∧ t.core.g = s.core.g ∧ (t.slot s.core.slot).trap.w0.toNat % 256 = 0x01)) ∧
    (s.segd 7 = seg7 → ∀ i : Fin 7,
      exec (.rdfeat rd (BitVec.ofNat 18 i.val)) s = .next (wrote s rd (featWord s.var i.val) 6))

/-- A trap ends the run, fills the trap record of the slot and counts APPLET_TRAP; BREAK, SAT and SATU with a width of
0, a service number that does not exist, and a load through a segment with LIMIT 0 trap with the codes of R407. A run
whose budget is used up issues nothing and ends (R406). On a variant without the coprocessor every coprocessor
instruction traps with COP_ABSENT (R38). -/
def Obligations.XkTrapsEndTheRun : Prop :=
  (∀ (s : State) (imm n : BitVec 18) (rd ra : Fin 16) (k : Fin 8) (off : BitVec 15),
    mild s → s.core.slot < 8 →
    let trapped := fun (code seg acc size o : Nat) (t : State) =>
      t.core = { s.core with run := .trapped } ∧
      (t.slot s.core.slot).trap.w0 =
        BitVec.ofNat 32 (code + 256 * seg + 2048 * acc + 16384 * size + 65536 * s.core.slot) ∧
      (t.slot s.core.slot).trap.w1 = s.core.pc ∧ (t.slot s.core.slot).trap.w2 = BitVec.ofNat 32 o ∧
      t = { s with core := t.core, app := t.app, flt := t.flt }
    (issues s →
      Ends (.break imm) s (trapped 0x0C 0 5 0 imm.toNat) ∧
      Ends (.sat rd ra 0) s (trapped 0x01 0 5 0 0) ∧ Ends (.satu rd ra 0) s (trapped 0x01 0 5 0 0) ∧
      (n.toNat = 0 ∨ (0x08 < n.toNat ∧ n.toNat < 0x10) ∨ 0x11 < n.toNat →
        Ends (.svc n) s (trapped 0x0B 0 5 0 0)) ∧
      (k ≠ 6 → (s.segd k).limit = 0 →
        Ends (.ldw rd ra k off) s (trapped 0x03 k.val 1 2 (offsetOf s ra off)))) ∧
    (¬ issues s → Ends (.break imm) s (fun t =>
      t.core = { s.core with run := .overrun } ∧ t = { s with core := t.core, flt := t.flt }))) ∧
  (∀ (s : State) (rd ra rb : Fin 16) (f : BitVec 5) (g : BitVec 6) (i : Fin 4) (n : Fin 33) (m : Fin 32) (c : Instr),
    issues s → mild s → s.core.slot < 8 → hasCopro s.var = false → 1 ≤ n.val → 1 ≤ m.val →
    c ∈ [Instr.qmul rd ra rb f, .qdiv rd ra rb f, .qadd rd ra rb, .qsub rd ra rb, .sat rd ra n, .satu rd ra m,
      .qabs rd ra, .isqrt rd ra, .aclr, .mac ra rb, .msu ra rb, .ard rd g, .ardl rd, .ardh rd, .awr ra rb,
      .crci ra, .crcw ra, .crcb ra, .crcr rd, .akey ra i, .ain ra i, .aenc, .aout rd i] →
    ∃ t, exec c s = .next t ∧ t.core.run = .trapped ∧ t.core.g = s.core.g ∧ t.core.cop = s.core.cop ∧
      (t.slot s.core.slot).trap.w0.toNat % 256 = 0x0A)

/-! ### XK32: the coprocessor and the services (R404, R409, R410, R424, R425) -/

/-- The saturating fixed-point instructions and ISQRT (R409). A quotient that is not exact is cut towards
zero, which is the model's choice (log 11). -/
def Obligations.XkCoprocessorArithmetic : Prop :=
  ∀ (s : State) (rd ra rb : Fin 16) (f : BitVec 5) (n : Fin 33) (m : Fin 32), issues s → hasCopro s.var = true →
    let a := (s.gr ra).toInt
    let b := (s.gr rb).toInt
    let half : Int := if f = 0 then 0 else 2 ^ (f.toNat - 1)
    exec (.qmul rd ra rb f) s =
      .next (wrote s rd (BitVec.ofInt 32 (clampTo 32 ((a * b + half) / 2 ^ f.toNat))) 1) ∧
    exec (.qdiv rd ra rb f) s =
      .next (wrote s rd (if b = 0 then (if a = 0 then 0 else if a < 0 then 0x80000000 else 0x7FFFFFFF)
        else BitVec.ofInt 32 (clampTo 32 ((a * 2 ^ f.toNat).tdiv b))) 34) ∧
    exec (.qadd rd ra rb) s = .next (wrote s rd (BitVec.ofInt 32 (clampTo 32 (a + b))) 1) ∧
    exec (.qsub rd ra rb) s = .next (wrote s rd (BitVec.ofInt 32 (clampTo 32 (a - b))) 1) ∧
    (1 ≤ n.val → exec (.sat rd ra n) s = .next (wrote s rd (BitVec.ofInt 32 (clampTo n.val a)) 1)) ∧
    (1 ≤ m.val → exec (.satu rd ra m) s =
      .next (wrote s rd (BitVec.ofInt 32 (if a < 0 then 0 else min a (2 ^ m.val - 1))) 1)) ∧
    exec (.qabs rd ra) s = .next (wrote s rd (BitVec.ofInt 32 (clampTo 32 |a|)) 1) ∧
    exec (.isqrt rd ra) s = .next (wrote s rd (BitVec.ofNat 32 (Nat.sqrt (s.gr ra).toNat)) 17)

/-- The accumulator (R409): MAC and MSU add and subtract the signed product modulo 2^64, ARD reads it rounded, shifted
and saturated, ARDL and ARDH read its halves, AWR and ACLR write it. The CRC register takes 32 steps of the reflected
polynomial per word; an AES instruction first waits for an encryption in progress, and a finished encryption holds the
block of the key and input (R409, R410). AES itself is the model's (log 7). -/
def Obligations.XkAccumulatorCrcAndAes : Prop :=
  (∀ (s : State) (rd ra rb : Fin 16) (f : BitVec 6), issues s → hasCopro s.var = true →
    let c := s.core.cop
    let p := BitVec.ofInt 64 ((s.gr ra).toInt * (s.gr rb).toInt)
    let half : Int := if f = 0 then 0 else 2 ^ (f.toNat - 1)
    exec .aclr s = .next (banked s { c with acc := 0 }) ∧
    exec (.mac ra rb) s = .next (banked s { c with acc := c.acc + p }) ∧
    exec (.msu ra rb) s = .next (banked s { c with acc := c.acc - p }) ∧
    exec (.awr ra rb) s = .next (banked s { c with acc := s.gr rb ++ s.gr ra }) ∧
    exec (.ard rd f) s =
      .next (wrote s rd (BitVec.ofInt 32 (clampTo 32 ((c.acc.toInt + half) / 2 ^ f.toNat))) 1) ∧
    exec (.ardl rd) s = .next (wrote s rd (c.acc.extractLsb' 0 32) 1) ∧
    exec (.ardh rd) s = .next (wrote s rd (c.acc.extractLsb' 32 32) 1)) ∧
  (∀ (s : State) (rd ra : Fin 16) (i : Fin 4), issues s → hasCopro s.var = true →
    let c := s.core.cop
    let wait := { s with core := { s.core with cycles := max s.core.cycles c.busyUntil } }
    let v := s.gr ra
    let eight := fun (x : Word) => (List.range 8).foldl
      (fun y _ => if y.getLsbD 0 then (y >>> 1) ^^^ 0xEDB88320 else y >>> 1) x
    exec (.crci ra) s = .next (banked s { c with crc := v }) ∧
    exec (.crcb ra) s = .next (banked s { c with crc := eight (c.crc ^^^ (v &&& 0xFF)) }) ∧
    exec (.crcw ra) s = .next (banked s { c with crc := crcWord c.crc v }) ∧
    exec (.crcr rd) s = .next (wrote s rd (~~~ c.crc) 1) ∧
    exec (.akey ra i) s = .next (banked wait { c with key := c.key.set i v }) ∧
    exec (.ain ra i) s = .next (banked wait { c with inp := c.inp.set i v }) ∧
    exec .aenc s = .next (banked wait { c with
      out := blockWords (aes128 (copBlock c.key) (copBlock c.inp))
      busyUntil := max s.core.cycles c.busyUntil + 12 }) ∧
    exec (.aout rd i) s = .next (wrote wait rd c.out[i] 1))


/-- The services that read (R424): status 0 in g1, the result in g2, PC on and the cost of the service over the 4
cycles of SVC; and SVC performs the service its number names, as the service's own row does (R404). -/
def Obligations.XkReadServices : Prop :=
  (∀ (s : State), issues s →
    let arg := (s.gr 1).toNat
    let ok := fun (u : State) (v : Word) (n : Nat) => wrote { u with core := { u.core with g := s.core.g.set 1 0 } } 2 v n
    (arg ≤ 1 → Ends .readIn s (fun t => ∃ v : Word, t = ok s v 24 ∧
      ∀ i, i < 32 → v.getLsbD i = (s.si (32 * arg + i)).snapState)) ∧
    (arg ≤ 1 → s.core.slot < 8 → Ends .inChg s (fun t =>
      ∃ v : Word, t.core = (ok s v 24).core ∧ t = { s with core := t.core, port := t.port } ∧
      ∀ i, i < 32 → v.getLsbD i = (s.si (32 * arg + i)).appLatch.testBit s.core.slot ∧
        (t.si (32 * arg + i)).appLatch.testBit s.core.slot = false)) ∧
    (∀ r, kvGet (s.slot s.core.slot).results arg = some r →
      r.status < 256 → r.acted < 256 → r.lost < 256 → r.op < 256 →
      exec .result s =
        .next (ok s (BitVec.ofNat 32 (r.status + 256 * r.acted + 65536 * r.lost + 16777216 * r.op)) 24)) ∧
    (kvGet (s.slot s.core.slot).results arg = none → exec .result s = .next (ok s 0xFF 24)) ∧
    (∀ n : Fin 48, arg = 0x0100 + n.val → hasLoad s.var n = true →
      exec .diag s = .next (ok s ((s.aggregate [arg]).head?.getD 0) 34)) ∧
    (arg ≤ 63 → (s.si arg).vmean < 65536 → (s.si arg).iwet < 65536 →
      exec .sense s = .next (ok s (BitVec.ofNat 32 ((s.si arg).vmean + 65536 * (s.si arg).iwet)) 24)) ∧
    (hasField s.var = true → Ends .fieldIn s (fun t => ∃ v : Word, t = ok s v 24)) ∧
    (arg ≤ 3 → exec .tickTime s = .next (ok s (BitVec.ofNat 32 (vget s.tim.tick arg)) 24)) ∧
    (hasAccess s.var = true → exec .svcAccStat s = .next (ok s s.accStat 24))) ∧
  (∀ (s : State),
    exec (.svc 0x01) s = exec .readIn s ∧ exec (.svc 0x02) s = exec .inChg s ∧
    exec (.svc 0x03) s = exec .result s ∧ exec (.svc 0x04) s = exec .diag s ∧
    exec (.svc 0x05) s = exec .sense s ∧ exec (.svc 0x06) s = exec .fieldIn s ∧
    exec (.svc 0x07) s = exec .tickTime s ∧ exec (.svc 0x08) s = exec .svcAccStat s ∧
    exec (.svc 0x10) s = exec .request s ∧ exec (.svc 0x11) s = exec .requestBuf s)


/-- REQUEST and REQUEST_BUF that pass the checks of R425 put one request into the queue of the next racking:
status 1, the request's number in g2, and nothing is switched yet. -/
def Obligations.XkRequestsQueueOneCommand : Prop :=
  ∀ (s : State), issues s → s.core.issued < 16 → (s.gr 3).toNat < 65536 → (s.gr 3).toNat % 256 = 0 →
    let op := (s.gr 1).toNat
    let queued := fun (l : List Word) (t : State) =>
      let c : HostCmd := { seq := 0, node := (s.gr 2).toNat, flags := (s.gr 3).toNat, payload := l }
      payloadAbsent s op c = false → paramsOk s op c = true → s.eng.room false (chargeOf op c) = true →
      t.core.g = (s.core.g.set 1 1).set 2 (BitVec.ofNat 32 s.core.issued) ∧
      t.core.issued = s.core.issued + 1 ∧
      t.eng.qNext = s.eng.qNext ++ [{ op := op, cmd := c, charge := chargeOf op c, ack := false,
                                      slot := some s.core.slot, req := s.core.issued }] ∧
      t = { s with core := t.core, eng := { s.eng with qNext := t.eng.qNext } }
    (s.requestCheck false = none →
      Ends .request s (queued ([s.gr 4, s.gr 5, s.gr 6].take (requestLen op)))) ∧
    ∀ k : Fin 8, s.requestCheck true = none → (s.gr 4).toNat = k.val → 1 ≤ k.val → k.val ≤ 5 →
      1 ≤ (s.gr 6).toNat → (s.gr 6).toNat ≤ 64 →
      (∀ i, i < (s.gr 6).toNat → reachable s k false ((s.gr 5).toNat + 4 * i) 4) →
      Ends .requestBuf s (queued ((List.range (s.gr 6).toNat).map (fun i =>
        let a := (s.segd k).base + (s.gr 5).toNat + 4 * i
        sbyte s (a + 3) ++ sbyte s (a + 2) ++ sbyte s (a + 1) ++ sbyte s a)))


/-! ### Host commands: general and reading (R147, R156, R162, R258, R259, R286 and the like) -/

/-- NOP, PING, GET_STATUS and GET_FEATURES only answer (R147): word 2 names the frame, PING returns its
payload, GET_STATUS six words of status, GET_FEATURES the eight feature words and the ledger count. -/
def Obligations.GeneralCommandsAnswer : Prop :=
  ∀ (s : State) (c : HostCmd),
    (served s 0x00 c → Ends (.nop c) s (fun t => answered s t 0x00 c 0 [])) ∧
    (served s 0x01 c → Ends (.ping c) s (fun t => answered s t 0x01 c 0 c.payload)) ∧
    (served s 0x02 c → Ends (.getStatus c) s (fun t => ∃ w3 w4 w5, answered s t 0x02 c 0
      [w3, w4, w5, BitVec.ofNat 32 s.vat.liveGen, BitVec.ofNat 32 (s.pwr.rstCause % 128), s.pwr.wakeRec] ∧
      w5.toNat = s.pwr.patchApplied % 65536 + 65536 * (s.pwr.patchRejected % 65536))) ∧
    (served s 0x03 c → s.pwr.fuseFailed = false → Ends (.getFeatures c) s (fun t => ∃ w7 w8, answered s t 0x03 c 0
      ((List.range 7).map (featWord s.var) ++ [w7, w8]) ∧ w8.toNat % 512 = s.feat.ledger.length % 512)) ∧
    (served s 0x04 c → Ends (.cancel c) s (fun t =>
      t.eng.deferred = s.eng.deferred.filter (fun d => c.node ≠ 0 ∧ d.cmd.cmd.node ≠ c.node) ∧
      let gone := (s.eng.deferred.filter (fun d => c.node = 0 ∨ d.cmd.cmd.node = c.node)).length
      t.eng.cancelled = min (s.eng.cancelled + gone) 255 ∧
      (t.link.replies ++ t.link.held).length = (s.link.replies ++ s.link.held).length + gone + 1))

/-- READ_INPUTS and FIELD_READ return the snapshots of the units that the target reaches, and of the change latches that
the reply reports those clear as it enters the queue that no transition has set again since step 1 (R255, R258, R280,
R286, R486). -/
def Obligations.InputReadsReturnTheSnapshot : Prop :=
  ∀ (s : State) (c : HostCmd),
    (served s 0x30 c → Ends (.readInputs c) s (fun t =>
      let in_ := fun n => (0x0300 + n) ∈ s.unitSet c.node
      ∃ w3 w4 w5 w6 w7 w8 : Word, answered { s with port := t.port } t 0x30 c 0 [w3, w4, w5, w6, w7, w8] ∧
      (∀ n, n < 32 → (w3.getLsbD n = (decide (in_ n) && (s.si n).snapState)) ∧
        (w4.getLsbD n = (decide (in_ (32 + n)) && (s.si (32 + n)).snapState)) ∧
        (w5.getLsbD n = (decide (in_ n) && (s.si n).snapCmd)) ∧
        (w6.getLsbD n = (decide (in_ (32 + n)) && (s.si (32 + n)).snapCmd)) ∧
        (w7.getLsbD n = (decide (in_ n) && (s.si n).snapValid)) ∧
        (w8.getLsbD n = (decide (in_ (32 + n)) && (s.si (32 + n)).snapValid))) ∧
      (roomy s → ∀ n, n < 64 → s.clk.snapSeq ≤ s.evSeq →
        t.si n = { s.si n with cmdLatch := (s.si n).cmdLatch &&
          !(decide (in_ n) && (s.si n).snapCmd && decide ((s.si n).cmdSeq ≤ s.clk.snapSeq)) }))) ∧
    (served s 0x39 c → cOpt c = 0 → Ends (.fieldRead c) s (fun t =>
      let in_ := fun n => (0x0400 + n) ∈ s.unitSet c.node
      ∃ w3 w4 w5 : Word, answered { s with field := t.field } t 0x39 c 0 [w3, w4, w5] ∧
      (∀ n, n < 16 → (w3.getLsbD n = (decide (in_ n) && (s.fio n).snapIn)) ∧
        (w3.getLsbD (16 + n) = (decide (in_ n) && (s.fio n).snapValid)) ∧
        (w4.getLsbD n = (decide (in_ n) && (s.fio n).snapChg)) ∧
        (w4.getLsbD (16 + n) = (decide (in_ n) && (s.fio n).snapGate))) ∧
      w5.toNat % 65536 = s.field.snapFv24 % 65536 ∧
      (roomy s → ∀ n, n < 16 → s.clk.snapSeq ≤ s.evSeq →
        t.fio n = { s.fio n with cmdLatch := (s.fio n).cmdLatch &&
          !(decide (in_ n) && (s.fio n).snapChg && decide ((s.fio n).cmdSeq ≤ s.clk.snapSeq)) })))

/-- READ_DIAG of a load channel returns the published words of the frame before, named in word 2 (R142,
R154, R156, R191); READ_SENSE of a port in service returns VMEAN beside its node (R259). -/
def Obligations.DiagnosticReads : Prop :=
  ∀ (s : State) (c : HostCmd) (n : Nat),
    (n < 48 → c.node = 0x0100 + n → served s 0x31 c → Ends (.readDiag c) s (fun t =>
      let p := (s.ch n).pub
      ∃ w3 w4 w6 w7 w8 : Word,
        answeredWith s t 0x31 c 0
          [BitVec.ofNat 32 ((s.clk.tickCount + 2 ^ 32 - 1) % 2 ^ 32), w3, w4, p.stat, w6, w7, w8, p.pstat] ∧
        w3.toNat / 256 % 256 = 1 ∧ w6.toNat = p.ioutOn % 65536 + 65536 * (p.ioutAvg % 65536) ∧
        (w7.toNat % 65536 : Int) = p.vout % 65536 ∧ w8.toNat % 4096 = p.duty % 4096)) ∧
    (n < 64 → c.node = 0x0300 + n → cOpt c = 0 → s.siMode n ≠ 0 → served s 0x32 c → Ends (.readSense c) s (fun t =>
      answered s t 0x32 c 0 [1, BitVec.ofNat 32 (min 65535 (s.si n).vmean + 65536 * (0x0300 + n))]))

/-- VAT_READ returns the live or the staged values, CASK_LIST the identifiers of the defined casks or the
direct members of one, and both restart the vat lease (R151, R162, R167). -/
def Obligations.VatAndCaskReads : Prop :=
  ∀ (s : State) (c : HostCmd) (ms : List Nat),
    (served s 0x15 c → optBit c 0 = true → Ends (.vatRead c) s (fun t =>
      answered (released s) t 0x15 c 0 (c.payload.map (fun a => stRead s.live.regs a.toNat)))) ∧
    (served s 0x15 c → optBit c 0 = false → s.vat.st ≠ .closed → Ends (.vatRead c) s (fun t =>
      answered (released s) t 0x15 c 0 (c.payload.map (fun a => stRead s.vat.img.regs a.toNat)))) ∧
    (served s 0x1A c → optBit c 0 = false → caskMembers s.live.casks c.node = some ms → c.node ≠ 0 →
      Ends (.caskList c) s (fun t => answered (released s) t 0x1A c 0
        (BitVec.ofNat 32 ms.length :: pairUp ((ms.drop (pw c 2).toNat).take 500)))) ∧
    (served s 0x1A c → optBit c 0 = false → c.node = 0 →
      Ends (.caskList c) s (fun t => answered (released s) t 0x1A c 0
        (BitVec.ofNat 32 s.live.casks.length :: pairUp (((s.live.casks.map (·.1)).drop (pw c 2).toNat).take 500))))

/-- The reading commands of the networks, NETMGR and the time bases (R307, R317, R341, R342, R344, R363): what
a queue gives it loses, a buffer read clears NEW and LOST where no bus master holds it. -/
def Obligations.NetworkReads : Prop :=
  ∀ (s : State) (c : HostCmd) (k : Fin 4) (h : Fin 6) (p : Fin 2) (id : Nat) (f : T1sRx) (ring : List T1sRx),
    s.clk.failOver = false →
    (served s 0x41 c → pf c 2 0 2 = k.val → pf c 2 2 2 = 2 → Ends (.canRead c) s (fun t =>
      let es := (s.canc k).events.take (pf c 2 16 8)
      let rest := (s.canc k).events.drop (pf c 2 16 8)
      answered (s.updCan k (fun d => { d with events := rest })) t 0x41 c 0
        (BitVec.ofNat 32 (es.length % 256 + 256 * (rest.length % 256)) :: es.flatMap (fun e => [e.1, e.2])))) ∧
    (served s 0x44 c → pf c 2 0 3 = h.val → pf c 2 8 6 = id → pf c 2 16 7 = 1 → cOpt c = 0 →
      (linRx (s.linc h) id).lock = none → linRx (s.linc h) id ≠ default → Ends (.linRead c) s (fun t =>
      let b := (linRx (s.linc h) id).cur
      answered (s.updRx h id (fun b => { b with cur := { b.cur with new := false, lost := false } })) t 0x44 c 0
        [1, linWord b id 0, linWord b id 1, linWord b id 2, linWord b id 3])) ∧
    (served s 0x4C c → pf c 2 0 1 = p.val → pf c 2 16 8 = 1 → (s.ts p).ring = f :: ring →
      Ends (.t1sRead c) s (fun t => ∃ w4 : Word,
      answered (s.updT1s p (fun d => { d with ring := ring })) t 0x4C c 0
        ([BitVec.ofNat 32 (1 + 256 * (ring.length % 256)), w4, BitVec.ofNat 32 f.tb0, BitVec.ofNat 32 f.tbi] ++
          packBytes (f.bytes.take 1000)) ∧ w4.toNat % 2048 = f.len % 2048)) ∧
    (served s 0x4A c → pf c 2 0 1 = p.val → Ends (.tsqRead c) s (fun t =>
      let es := (s.ts p).tsq.take (pf c 2 16 4)
      let rest := (s.ts p).tsq.drop (pf c 2 16 4)
      answered (s.updT1s p (fun d => { d with tsq := rest })) t 0x4A c 0
        (BitVec.ofNat 32 (es.length % 16 + 256 * (rest.length % 16)) :: es.flatMap (fun e => [e.1, e.2.1, e.2.2])))) ∧
    (served s 0x49 c → pf c 2 0 4 = 1 → cOpt c = 0 → Ends (.timeGet c) s (fun t =>
      answered s t 0x49 c 0 [s.timeStat, BitVec.ofNat 32 s.now, BitVec.ofNat 32 (s.now % 2 ^ 64 / 2 ^ 32)])) ∧
    (served s 0x49 c → pf c 2 0 4 = 2 ^ k.val → cOpt c = 1 → Ends (.timeGet c) s (fun t =>
      let v := s.tim.tick[k]
      answered s t 0x49 c 0 [s.timeStat, BitVec.ofNat 32 v, BitVec.ofNat 32 (v / 2 ^ 32)])) ∧
    (served s 0x52 c → Ends (.nmStatus c) s (fun t =>
      answered s t 0x52 c 0 [s.nmStat, s.nmPresent, BitVec.ofNat 32 s.nmSi, s.nm.wakeRec]))

/-- ACC_STATUS, APPLET_STATUS and the reading fault commands (R390, R426, R443): the registers and records
that they return, and the notifications that FAULT_NOTIFY clears as its reply enters the queue (R442). -/
def Obligations.StatusReads : Prop :=
  ∀ (s : State) (c : HostCmd) (i : Fin 8) (k : Nat),
    (served s 0x58 c → Ends (.accStatus c) s (fun t => ∃ w7 : Word,
      let l := s.acc.log.filter (fun e => (e.1.toNat % 65536 + 65536 - pf c 2 0 16) % 65536 < 32768)
      answered s t 0x58 c 0 ([s.accStat, s.accSession, s.accThrottle, BitVec.ofNat 32 s.acc.sessionT, w7] ++
        l.flatMap (fun e => [e.1, e.2.1, e.2.2.1, e.2.2.2.1, e.2.2.2.2])) ∧
      w7.toNat = s.acc.nextEvent % 65536 + 65536 * (l.length % 256))) ∧
    (served s 0x63 c → pf c 2 0 3 = i.val → Ends (.appletStatus c) s (fun t => ∃ w3 w4 w5 w6 w7 : Word,
      let a := s.slot i
      answered s t 0x63 c 0 [w3, w4, w5, w6, w7, a.trap.w0, a.trap.w1, a.trap.w2, a.trap.w3] ∧
      w3.toNat % 8 = (match a.st with | .empty => 0 | .loading => 1 | .writing => 2 | .ready => 3 | .started => 4) ∧
      w5.toNat = a.lastCycles % 2 ^ 21 ∧ w6.toNat = a.maxCycles % 2 ^ 21)) ∧
    (served s 0x70 c → Ends (.faultStatus c) s (fun t =>
      answered s t 0x70 c 0 [s.faultStat, s.faultRecov, s.faultSevere 0, s.faultSevere 1, s.faultSevere 2,
        BitVec.ofNat 32 (s.flt.lastChip % 256)])) ∧
    (served s 0x71 c → pf c 2 0 8 = k → pf c 2 8 8 = 1 → Ends (.faultCapture c) s (fun t =>
      let f := s.flt.first
      let q := (s.src k).cap
      answered s t 0x71 c 0 [f.w0, f.w1, f.w2, f.w3, s.srcStat k, q.w0, q.w1, q.w2, q.w3])) ∧
    (served s 0x73 c → Ends (.faultNotify c) s (fun t => ∃ w3 w4 w5 : Word,
      answered { s with flt := t.flt } t 0x73 c 0 [w3, w4, w5] ∧
      (∀ n, n < 32 → w3.getLsbD n = (s.src n).pend ∧ w4.getLsbD n = (s.src (32 + n)).pend ∧
        w5.getLsbD n = (s.src (64 + n)).pend) ∧
      (roomy s → ∀ n, n < 96 → (s.src n).pendSeq ≤ s.evSeq → t.src n = { s.src n with pend := false })))


/-! ### Host commands: outputs (R176-R183, R202, R232, R284) -/

/-- No rung above the host's command owns the unit, and no precedence grant reaches it (R158, R159). -/
def Sys2Proof.Claims.free (s : State) (u : Nat) : Prop := s.heldUnit u = false ∧ s.holder u = none

/-- SET_OUT, SET_DUTY, SET_PHASE and PULSE on one load channel that nothing above the host owns, where thermal
admission lets the change pass (R176, R178, R182, R183, R200, R211): the set-points that the command gives stand as
commanded, a command that turns the channel off clears OC_LATCH and a pending turn-on (the channel stays off until the
output update), no other channel changes, and the reply says that one unit was acted on. What the channel did up to now
is noted first, which changes no set-point (State.sweepLoad). CLEAR_LATCH on a channel with a steady drive: the over-current latch and
lock go and the retries are refilled, or the open-load state goes (R202). -/
def Obligations.LoadCommandsWriteSetPoints : Prop :=
  (∀ (s : State) (c : HostCmd) (n : Nat), n < 48 → c.node = 0x0100 + n → free s (0x0100 + n) →
    let ch := s.ch n
    let sp := commanded ch
    let doesOn := fun (s0 : State) (op : Nat) (i : Instr) (new : LoadCh) =>
      let u := s0.updLoad n (fun _ => new)
      served s op c → s.admission u = none → Ends i s (fun t => acted u t op c 0 [1])
    let does := doesOn s
    (pb c 2 0 = false → doesOn (s.sweepLoad n) 0x20 (.setOut c)
      { (s.sweepLoad n).ch n with
                sh := { sp with mode := .off }, modeNew := true, pend := none, ocLatch := false, retryAt := none
                retryHeld := false, relHold := ch.relHold || ch.ocLatch
                pendCancel := if ch.pend.isSome then min (ch.pendCancel + 1) 255 else ch.pendCancel }) ∧
    (ch.demagAt = none →
      (pb c 2 0 = true → pf c 2 8 16 = 0 → sp.mode = .off → does 0x20 (.setOut c)
        { ch with sh := { sp with mode := if s.pinEn n then .pin else .on, ramp := 0 }, modeNew := true }) ∧
      (pf c 2 0 12 ≠ 0 → s.genEn n = true → does 0x21 (.setDuty c)
        { ch with sh := { sp with mode := .pwm, duty := pf c 2 0 12,
                                  freq := if pf c 2 16 13 = 0 then sp.freq else pf c 2 16 13 },
                  modeNew := true, genNew := true }) ∧
      (s.pinEn n = false → does 0x23 (.pulse c)
        { ch with sh := { sp with mode := .pulse, train :=
                    { width := pf c 2 0 20, count := pf c 2 24 8, gap := pf c 3 0 20, pol := pb c 3 31 } },
                  modeNew := true })) ∧
    (pb c 2 8 = false → does 0x22 (.setPhase c)
      { ch with sh := { ch.sh with phase := pf c 2 0 8 }, genNew := true
                pend := ch.pend.map (fun p => { p with phase := pf c 2 0 8 }) })) ∧
  (∀ (s : State) (c : HostCmd) (n : Nat), n < 48 → c.node = 0x0100 + n → free s (0x0100 + n) → served s 0x24 c →
    let ch := s.ch n
    (pf c 2 0 2 = 1 → ch.act.mode = .on →
      let w := s.sweepLoad n
      let u := w.updLoad n (fun _ => { w.ch n with
        ocLatch := false, locked := false, retryAt := none, retryHeld := false, retryLeft := s.cfg (lcProt n) 16 4
        relHold := ch.relHold || ch.ocLatch || ch.locked })
      s.admission u = none → Ends (.clearLatch c) s (fun t => acted u t 0x24 c 0 [1])) ∧
    (pf c 2 0 2 = 2 →
      let u := s.updLoad n (fun _ => { ch with openLoad := false, olRun := 0 })
      s.admission u = none → Ends (.clearLatch c) s (fun t => acted u t 0x24 c 0 [1])))


/-- VALVE_FIRE on an idle valve block takes a place in the peak queue with a start bound of now and no
deferral; VALVE_HOLD and VALVE_RELEASE on a valve outside RELEASE wait for the output update, the latter also
clearing the latches with OPT bit 0; FIELD_SET gives a field channel its drive (R232, R235, R242, R284). -/
def Obligations.ValveAndFieldCommands : Prop :=
  ∀ (s : State) (c : HostCmd) (n : Nat),
    (n < 8 → c.node = 0x0200 + n → free s (0x0200 + n) →
      let v := s.vl n
      (served s 0x28 c → (s.valve.boost = .charge ∨ s.valve.boost = .ready) → s.boostEn = true →
        s.valve.entryHold = false → s.valveLocked n = false → v.todo = [] → s.valve.queue = [] → (∀ p, p < 8 → (s.vl p).st = .off) →
        let u := ({ s with valve := { s.valve with queue := [n] } }).updValve n (fun _ =>
          { v with bound := s.now, todo := v.todo ++ [VCmd.fire (pf c 2 0 16)] })
        s.admission u = none → Ends (.valveFire c) s (fun t => acted u t 0x28 c 0 [1, 0])) ∧
      (served s 0x29 c → s.valve.entryHold = false → s.valveLocked n = false → v.st ≠ .release →
        let u := s.updValve n (fun _ => { v with todo := v.todo ++ [VCmd.hold (pf c 2 0 16) (pf c 2 16 12)] })
        s.admission u = none → Ends (.valveHold c) s (fun t => acted u t 0x29 c 0 [1])) ∧
      (served s 0x2A c → v.st ≠ .release → cOpt c = 0 →
        let u := s.updValve n (fun _ => { v with todo := v.todo ++ [VCmd.release] })
        s.admission u = none → Ends (.valveRelease c) s (fun t => acted u t 0x2A c 0 [1])) ∧
      (served s 0x2A c → v.st ≠ .release → cOpt c = 1 →
        let u := (s.updValve n (fun _ => { v with todo := v.todo ++ [VCmd.release] })).clearValve n
        s.admission u = none → Ends (.valveRelease c) s (fun t => acted u t 0x2A c 0 [1] ∧
          (t.vl n).ocLatch = false ∧ (t.vl n).open_ = false ∧ (t.vl n).bankOc = false ∧
          (t.vb (bankOf n)).bankOc = false))) ∧
    (n < 16 → c.node = 0x0400 + n → free s (0x0400 + n) → served s 0x38 c → cOpt c = 0 →
      2 ≤ (s.fio n).mode → s.field.st = .run →
      let d : FDrive := if pb c 2 1 then .pulse (pb c 2 0) 0 (pf c 2 8 24) else if pb c 2 0 then .on else .off
      let u := s.updFio n (fun f => { f with sh := d, shNew := true })
      s.admission u = none → Ends (.fieldSet c) s (fun t => acted u t 0x38 c 0 [1]))


/-! ### The vat, casks and staged applets (R151, R161-R168, R419, R423) -/

/-- An answer that its command waits for is known and is posted at the next racking (R144). -/
def Sys2Proof.Claims.nowAnswered (o : Outst) (st : Nat) (ws : List Word) : Outst := { o with answer := some (st, ws) }

/-- VAT_OPEN fills a closed vat with the live configuration or with Reset values, VAT_WRITE merges one item under its
mask, VAT_DISCARD drops the vat, VAT_LOAD replaces it by a good image of the same variant; each leaves the vat in the
state of R161 and starts its lease anew (R162, R167, R168). What VAT_WRITE stages is the merged value less the bits of
absent channels and with the fixed reactions (R93, R432). The lease of an OPEN or CHECKED vat ends LEASE seconds after
the latest command to it: the vat closes with LAST_END 3; before that, the event finds nothing to do. -/
def Obligations.VatCommandsChangeTheStagedImage : Prop :=
  (∀ (s : State) (c : HostCmd) (a m v : Word) (i : Nat) (img : Image),
    (served s 0x10 c → s.vat.st = .closed → s.flt.declared.testBit 3 = false → Ends (.vatOpen c) s (fun t =>
      answered { s with vat := t.vat, app := t.app } t 0x10 c 0 [] ∧
      t.vat = { s.vat with st := .open, img := if optBit c 0 then default else s.live, leaseFrom := s.now } ∧
      ∀ i, i < 8 → t.slot i = { s.slot i with
        staged := if optBit c 0 then none else (s.slot i).live
        stagedGrants := if optBit c 0 then [] else (s.slot i).grants })) ∧
    (vatOpenNow s.vat.st = true →
      (served s 0x11 c → c.payload = [a, m, v] → Ends (.vatWrite c) s (fun t =>
        let old := stRead s.vat.img.regs a.toNat
        let regs := stWrite s.vat.img.regs a.toNat (storedValue s.var a.toNat ((old &&& ~~~m) ||| (v &&& m)))
        answered { s with vat := { s.vat with st := .open, leaseFrom := s.now, img := { s.vat.img with regs := regs } } }
          t 0x11 c 0 [])) ∧
      (served s 0x14 c → Ends (.vatDiscard c) s (fun t =>
        answered { s with vat := { s.vat with st := .closed, img := default, lastEnd := 2 }, app := t.app } t 0x14 c 0 [] ∧
        ∀ i, i < 8 → t.slot i = { s.slot i with staged := none, stagedGrants := [] })) ∧
      (served s 0x17 c → pf c 2 0 2 = i → vget s.vat.stored i = some (true, s.var, img) → Ends (.vatLoad c) s (fun t =>
        answered { s with
          vat := { s.vat with st := .open, leaseFrom := s.now, img := { img with starts := [], grants := [] } }
          app := t.app } t 0x17 c 0 [])))) ∧
  (∀ (s : State) (at_ : Nat), 1 ≤ bits s.vatCfg 0 6 → bits s.vatCfg 0 6 ≤ 60 → s.vat.st = .open ∨ s.vat.st = .checked →
    let s0 := s.atPhase at_
    let due := s.vat.leaseFrom + bits s.vatCfg 0 6 * 1000000000
    (due ≤ s0.now → Ends (.vatLeaseExpiry at_) s (fun t =>
      t = { s0 with vat := { s.vat with st := .closed, img := default, lastEnd := 3 }, app := t.app } ∧
      ∀ i, i < 8 → t.slot i = { s.slot i with staged := none, stagedGrants := [] })) ∧
    (s0.now < due → exec (.vatLeaseExpiry at_) s = .next s0))

/-- VAT_CHECK, VAT_BOTTLE and VAT_STORE leave their answer to a later racking: CHECKING until the check
completes, BOTTLING, a stored image without a good CRC until its write completes (R144, R165, R166, R168).
With 16 commands outstanding each is refused BUSY. -/
def Obligations.VatCommandsAnsweredLater : Prop :=
  ∀ (s : State) (c : HostCmd) (at_ : Nat) (i : Fin 4) (img : Image) (rest : List (Nat × Image)) (o : Outst),
    (s.eng.outst.length < 16 →
      (served s 0x12 c → vatOpenNow s.vat.st = true → Ends (.vatCheck c) s (fun t =>
        later { s with vat := { s.vat with st := .checking, leaseFrom := s.now } } t 0x12 c .vatCheck)) ∧
      (served s 0x13 c → s.vat.st = .checked → Ends (.vatBottle c) s (fun t =>
        later { s with vat := { s.vat with st := .bottling, leaseFrom := s.now } } t 0x13 c .vatBottle)) ∧
      (served s 0x16 c → s.vat.st = .checked → pf c 2 0 2 = i.val → Ends (.vatStore c) s (fun t =>
        later { s with vat := t.vat } t 0x16 c (.vatStore i) ∧
        t.vat.writing.length = s.vat.writing.length + 1 ∧
        ∃ im, t.vat.stored[i] = some (false, s.var, im) ∧ im.regs = s.vat.img.regs ∧ im.casks = s.vat.img.casks))) ∧
    (s.eng.outst.length = 16 → served s 0x12 c → vatOpenNow s.vat.st = true → Ends (.vatCheck c) s (fun t =>
      answered (released s) t 0x12 c 0x30 [])) ∧
    (served s 0x13 c → s.vat.st = .open → s.eng.cntVat < 255 → Ends (.vatBottle c) s (fun t =>
      answered { s with
        vat := { s.vat with leaseFrom := s.now, resReason := 0x0A, resFails := 1, resWhere := 0 }
        eng := { s.eng with cntVat := s.eng.cntVat + 1 } } t 0x13 c 0x20 [0x10A, 0])) ∧
    (let s0 := s.atPhase at_
     s.eng.outst = [o] → o.wait = .vatCheck → o.answer = none → s.vat.st = .checking → s0.vatFails = [] →
      exec (.vatCheckDone at_) s = .next { s0 with
        eng := { s.eng with outst := [nowAnswered o 0 []] }
        vat := { s.vat with st := .checked, leaseFrom := s0.now } }) ∧
    (let s0 := s.atPhase at_
     s.eng.outst = [o] → o.wait = .vatStore i → o.answer = none → s.vat.writing = (i.val, img) :: rest →
      (∀ q ∈ rest, q.1 ≠ i.val) →
      exec (.vatStoreDone at_ .good) s = .next { s0 with
        eng := { s.eng with outst := [nowAnswered o 0 []] }
        vat := { s.vat with writing := rest, stored := s.vat.stored.set i (some (true, s.var, img)) } })


/-- CASK_DEFINE and CASK_DELETE change the staged table alone (R150, R151), APPLET_START stages a start and
APPLET_PRECEDE a grant to a node of the loaded applet (R419, R423); all leave the vat OPEN. -/
def Obligations.StagedTablesChange : Prop :=
  ∀ (s : State) (c : HostCmd) (i : Fin 8) (h : AppHead) (code : List Word), vatOpenNow s.vat.st = true →
    let n := pf c 2 0 8
    let open_ := fun (casks : List (Nat × List Nat)) =>
      { s with vat := { s.vat with st := .open, leaseFrom := s.now, img := { s.vat.img with casks := casks } } }
    let t0 := kvSet s.vat.img.casks c.node (halves c 3 n)
    (served s 0x18 c → caskEntries t0 ≤ 8192 → Ends (.caskDefine c) s (fun t => answered (open_ t0) t 0x18 c 0 [])) ∧
    (served s 0x19 c → (caskMembers s.vat.img.casks c.node).isSome = true → Ends (.caskDelete c) s (fun t =>
      answered (open_ (kvDel s.vat.img.casks c.node)) t 0x19 c 0 [])) ∧
    (served s 0x61 c → pf c 2 0 3 = i.val → (s.slot i).st = .ready → s.flt.declared.testBit 1 = false →
      Ends (.appletStart c) s (fun t =>
        answered ((open_ s.vat.img.casks).updSlot i (fun a => { a with
          staged := some ⟨pf c 2 8 8, pf c 3 0 21, a.gen⟩ })) t 0x61 c 0 [])) ∧
    (served s 0x64 c → pf c 2 0 3 = i.val → pb c 2 8 = false → (s.slot i).store = some (h, code) →
      h.nodes.contains c.node = true → Ends (.appletPrecede c) s (fun t =>
        answered ((open_ s.vat.img.casks).updSlot i (fun a => { a with
          stagedGrants := insertAsc c.node a.stagedGrants })) t 0x64 c 0
          [BitVec.ofNat 32 ((s.unitSet c.node).length % 65536)]))


/-! ### The networks (R305, R309, R316, R317, R319, R340, R344, R345, R357, R363) -/

/-- CAN_TX queues a classic frame that enters at the output update, with its place in the queue in the
reply; CAN_CTRL starts a bus-off recovery or aborts (R305, R309). -/
def Obligations.CanCommandsQueueAndControl : Prop :=
  ∀ (s : State) (c : HostCmd) (k : Fin 4), s.clk.failOver = false →
    let q := s.canc k
    (served s 0x40 c → pf c 2 30 2 = k.val → q.st = .active ∨ q.st = .passive → q.txq.length < 16 → pb c 3 7 = false →
      Ends (.canTx c) s (fun t =>
        let f : CanTx := { id := pf c 2 0 29, ide := pb c 2 29, len := pf c 3 0 7, fdf := false, brs := pb c 3 8,
                           tag := pf c 3 16 8, single := optBit c 0, data := c.payload.drop 2,
                           entered := false, since := s.now, sof := 0 }
        answered (s.updCan k (fun d => { d with txq := d.txq ++ [f] })) t 0x40 c 0
          [BitVec.ofNat 32 (pf c 3 16 8 + 256 * (q.txq.length + 1))])) ∧
    (served s 0x42 c → pf c 2 0 2 = k.val → pf c 2 8 4 = 1 → q.st = .busOff → Ends (.canCtrl c) s (fun t =>
      let u := s.updCan k (fun d => { d with recovering := true })
      answered u t 0x42 c 0 [u.canStat k, u.canErrcnt k, u.canTxq k])) ∧
    (served s 0x42 c → pf c 2 0 2 = k.val → pf c 2 8 4 = 2 → (∀ f ∈ q.txq, f.entered = true) →
      Ends (.canCtrl c) s (fun t => (t.canc k).txq = [] ∧
        answered { s with can := t.can } t 0x42 c 0 [t.canStat k, t.canErrcnt k, t.canTxq k] ∧
        (t.canc k).st = q.st ∧ (t.canc k).obj = q.obj))

/-- LIN_TX stores a publish buffer for the output update, LIN_SCHED starts a table at a slot, LIN_CTRL
action 1 restarts the channel as EN asks (R316, R317, R319). -/
def Obligations.LinCommandsScheduleAndPublish : Prop :=
  ∀ (s : State) (c : HostCmd) (k : Fin 6), s.clk.failOver = false → pf c 2 0 3 = k.val →
    (served s 0x43 c → s.linDir k (pf c 2 8 6) = 1 → s.linLen k (pf c 2 8 6) = pf c 2 16 4 → Ends (.linTx c) s (fun t =>
      let b : LinPub := { w0 := pw c 3, w1 := pw c 4, valid := true, oneShot := optBit c 0 }
      answered (s.updLin k (fun l => { l with todo := kvSet l.todo (pf c 2 8 6) b })) t 0x43 c 0 [])) ∧
    (served s 0x45 c → s.linCmd k = true → (s.linc k).st = .idle ∨ (s.linc k).st = .running → pf c 2 8 2 = 1 →
      pf c 2 16 5 < s.linTableLen k (pf c 2 12 1) → Ends (.linSched c) s (fun t =>
      let u := s.updLin k (fun l => { l with
        st := .running, table := pf c 2 12 1, slot := pf c 2 16 5, switch := 0, slotAt := s.now, headerSent := false,
        frameId := none, goToSleep := false })
      answered u t 0x45 c 0 [u.linStat k])) ∧
    (served s 0x46 c → pf c 2 8 4 = 1 → Ends (.linCtrl c) s (fun t =>
      answered { s with lin := t.lin, svc := t.svc } t 0x46 c 0 [t.linStat k, t.linErr k] ∧
      (t.linc k).st = (if bit (stActs s.regs (linBase k)) 0 then .idle else .disabled) ∧
      (t.linc k).rx = [] ∧ (t.linc k).noResp = (s.linc k).noResp))

/-- T1S_TX queues a frame padded to 60 bytes for a port in RUN, T1S_CTRL aborts its queue, TIME_ADJUST notes
an adjustment for the output update (R340, R344, R345). -/
def Obligations.T1sAndTimeCommands : Prop :=
  ∀ (s : State) (c : HostCmd) (p : Fin 2),
    (s.clk.failOver = false → pf c 2 0 1 = p.val →
      (served s 0x48 c → (s.ts p).st = .run → (s.ts p).txq.length < 4 → Ends (.t1sTx c) s (fun t =>
        let b := wordBytes (c.payload.drop 1) (pf c 2 16 11)
        let f : T1sTx := { frameId := pf c 2 8 8, stamp := optBit c 0, entered := false,
                           bytes := b ++ List.replicate (60 - b.length) 0 }
        answered (s.updT1s p (fun d => { d with txq := d.txq ++ [f] })) t 0x48 c 0
          [BitVec.ofNat 32 (pf c 2 8 8 + 256 * ((s.ts p).txq.length + 1))])) ∧
      (served s 0x4D c → pf c 2 8 4 = 2 → (∀ f ∈ (s.ts p).txq, f.entered = true ∧ f.stamp = false) →
        Ends (.t1sCtrl c) s (fun t => (t.ts p).txq = [] ∧ (t.ts p).ring = (s.ts p).ring ∧
          answered { s with t1s := t.t1s } t 0x4D c 0 [t.t1sStat p, t.t1sCnt p, t.t1sTsq p]))) ∧
    (served s 0x4B c → Ends (.timeAdjust c) s (fun t =>
      let a : TimeAdj := { base := pf c 2 0 2, op := pf c 2 8 2, rate := (pw c 3).toInt,
                           offset := if pf c 2 8 2 = 2 then ((pw c 5 ++ pw c 4).toNat : Int) else (pw c 5 ++ pw c 4).toInt }
      ∃ w5 w6, answered { s with adj := s.adj ++ [a] } t 0x4B c 0
        [BitVec.ofNat 32 s.now, BitVec.ofNat 32 (s.now % 2 ^ 64 / 2 ^ 32), w5, w6]))

/-- NM_REQUEST_SLEEP and NM_STAY_AWAKE wait for the output update and answer with NETMGR_STAT as it will stand
after it (R357, R363); NM_REQUEST_SLEEP is refused in OFF. -/
def Obligations.NetworkSleepCommands : Prop :=
  ∀ (s : State) (c : HostCmd), s.clk.failOver = false →
    let noted := fun (code : Nat) => s.updNm (fun n => { n with todo := n.todo ++ [code] })
    (served s 0x50 c → cOpt c = 0 → s.nm.st ≠ .off → Ends (.nmRequestSleep c) s (fun t =>
      answered (noted 1) t 0x50 c 0 [(noted 1).nmOutput.nmStat])) ∧
    (served s 0x50 c → cOpt c = 1 → s.nm.st ≠ .off → s.ringUp = false → Ends (.nmRequestSleep c) s (fun t =>
      answered (noted 3) t 0x50 c 0 [(noted 3).nmOutput.nmStat])) ∧
    (served s 0x51 c → Ends (.nmStayAwake c) s (fun t => answered (noted 2) t 0x51 c 0 [(noted 2).nmOutput.nmStat])) ∧
    (served s 0x50 c → s.nm.st = .off → s.eng.cntNotPermitted < 255 → Ends (.nmRequestSleep c) s (fun t =>
      answered { s with eng := { s.eng with cntNotPermitted := s.eng.cntNotPermitted + 1 } } t 0x50 c 0x21 []))


/-! ### Access, applets, faults, power (R376-R389, R413-R421, R443, R444, R69, R76, R83, R149) -/

/-- ACC_CHALLENGE takes a nonce of two fresh values, which nothing constrains, and waits; ACC_ENROL and ACC_REVOKE
queue a key store write in an open dealer window and wait for it (R380, R382, R385, R386). ACC_DEALER_CODE opens the
dealer window at the output update on the right code, and counts a wrong one with a lockout of 10 s that doubles, up to
an hour (R383); ACC_SESSION_END ends a running session at the output update (R389). -/
def Obligations.AccessCommands : Prop :=
  (∀ (s : State) (c : HostCmd), s.eng.outst.length < 16 →
    (served s 0x59 c → s.acc.challenge = none → Ends (.accChallenge c) s (fun t =>
      let ch : Challenge := { coils := pf c 2 0 2, since := s.now,
                              nonce := Config.freeWord s.freeCtr ++ Config.freeWord (s.freeCtr + 1)
                              supply := s.supply.low || s.supply.ov }
      later { s with freeCtr := s.freeCtr + 2, acc := { s.acc with challenge := some ch } } t 0x59 c .challenge)) ∧
    (s.dealerOpen = true →
      (served s 0x5A c → s.acc.keyWrites = [] → (∀ i, i < 8 → (s.tok i).st = .empty) → Ends (.accEnrol c) s (fun t =>
        let w : KeyWrite := .enrol (pf c 2 0 3) (pw c 3) (pw c 4) (pw c 5 ++ pw c 6 ++ pw c 7 ++ pw c 8)
          (pw c 9 ++ pw c 10 ++ pw c 11 ++ pw c 12)
        later { s with acc := { s.acc with keyWrites := [w] } } t 0x5A c (.enrol (pf c 2 0 3)))) ∧
      (served s 0x5C c → Ends (.accRevoke c) s (fun t =>
        later { s with acc := { s.acc with keyWrites := s.acc.keyWrites ++ [.revoke (pf c 2 0 3)] } } t 0x5C c .revoke)))) ∧
  (∀ (s : State) (c : HostCmd) (code : BitVec 64),
    (served s 0x5B c → cOpt c = 0 → s.dealerLocked = false → s.acc.code = some code →
      (code = pw c 2 ++ pw c 3 → Ends (.accDealerCode c) s (fun t =>
        t.acc.wrong = 0 ∧ t.acc.lockEnd = none ∧
        t.acc.dealerTodo = some (s.now + s.cfg 0x400C0000 16 8 * 10000000000) ∧
        t.acc.nextEvent = (s.acc.nextEvent + 1) % 65536 ∧ t = { s with acc := t.acc, link := t.link, evSeq := t.evSeq })) ∧
      (code ≠ pw c 2 ++ pw c 3 → mild s → s.acc.wrong < 255 → s.eng.cntNotPermitted < 255 →
        Ends (.accDealerCode c) s (fun t =>
        t.acc.wrong = s.acc.wrong + 1 ∧
        t.acc.lockEnd = some (s.now + min 3600 (10 * 2 ^ (min (s.acc.wrong + 1) 16 - 1)) * 1000000000) ∧
        t.acc.dealerTodo = s.acc.dealerTodo ∧
        t = { s with acc := t.acc, link := t.link, evSeq := t.evSeq, flt := t.flt
                     eng := { s.eng with cntNotPermitted := s.eng.cntNotPermitted + 1 } }))) ∧
    (served s 0x5D c → s.acc.session.isSome = true → s.accEnd = none → Ends (.accSessionEnd c) s (fun t =>
      answered { s with accEnd := some (if pf c 2 0 1 = 1 then 2 else 3) } t 0x5D c 0 [1])) ∧
    (served s 0x5D c → s.acc.session = none → Ends (.accSessionEnd c) s (fun t => answered s t 0x5D c 0 [0])))


/-- APPLET_LOAD in its three forms: BEGIN clears the code area of a slot that is not started, CODE writes words
into it, COMMIT checks the CRC of the code area and starts the store write; APPLET_UNLOAD waits for the
erasure (R413-R417). APPLET_STOP stops what runs (R420). -/
def Obligations.AppletCommands : Prop :=
  ∀ (s : State) (c : HostCmd) (i : Fin 8) (h : AppHead) (v : Word), memWf s.mem.bytes = true →
    let a := s.slot i
    let base := 0x20040000 + 0x1000 * i.val
    (pf c 2 0 3 = i.val → a.st ≠ .started → a.st ≠ .writing → a.staged = none →
      (served s 0x60 (withOpt c 0) → Ends (.appletLoadBegin c) s (fun t =>
        answered { s with mem := t.mem, app := t.app } t 0x60 (withOpt c 0) 0 [] ∧
        t.slot i = { a with st := .loading, load := some (headOf (withOpt c 0)) } ∧
        ∀ b, sbyte t b = if base ≤ b ∧ b < base + 0x1000 then 0 else sbyte s b)) ∧
      (served s 0x60 (withOpt c 1) → a.load = some h → c.payload.length = 2 → pw c 3 = v →
        pf c 2 16 16 + 4 ≤ h.codeSize → h.codeSize ≤ 4096 → pf c 2 16 16 % 4 = 0 → Ends (.appletLoadCode c) s (fun t =>
        answered { s with mem := t.mem } t 0x60 (withOpt c 1) 0 [] ∧
        ∀ b, sbyte t b =
          if base + pf c 2 16 16 ≤ b ∧ b < base + pf c 2 16 16 + 4 then byteOf v (b - (base + pf c 2 16 16)) else sbyte s b)) ∧
      (served s 0x60 (withOpt c 2) → a.load = some h → crc32 (s.codeWords i h.codeSize) = pw c 3 →
        s.eng.outst.length < 16 → Ends (.appletLoadCommit c) s (fun t =>
        later (s.updSlot i (fun b => { b with st := .writing })) t 0x60 (withOpt c 2) (.appletStore i false))) ∧
      (served s 0x65 c → s.eng.outst.length < 16 → Ends (.appletUnload c) s (fun t =>
        later s t 0x65 c (.appletStore i true)))) ∧
    (served s 0x62 c → pf c 2 0 8 = 2 ^ i.val → a.st = .started → Ends (.appletStop c) s (fun t =>
      t.slot i = { a with st := .ready, live := none, staged := none, grants := [], stagedGrants := []
                          stopCause := 1, overRun := 0 } ∧
      t = { s with app := t.app, appTodo := s.appTodo.filter (· ≠ i.val), link := t.link, evSeq := t.evSeq, eng := t.eng } ∧
      (∀ q ∈ t.eng.qNext, q.slot ≠ some i.val) ∧ (∀ j, j < 8 → j ≠ i.val → t.slot j = s.slot j)))

/-- FAULT_CLEAR returns the named sources to their reset state, and with its flags FIRST and FLTN_HOLD;
FAULT_TEST notes a test that begins at the output update, and is refused for a source with a fixed reaction
(R443, R444). -/
def Obligations.FaultClearAndTest : Prop :=
  ∀ (s : State) (c : HostCmd),
    (served s 0x72 c → Ends (.faultClear c) s (fun t =>
      (∀ n, n < 94 → t.src n = (if bit (pw c (2 + n / 32)) (n % 32) then
        { s.src n with count := 0, openAt := none, total := 0, severeCnt := 0, captured := false, cap := default
                       severe := false, pend := false } else s.src n)) ∧
      t.flt.firstSet = (s.flt.firstSet && !pb c 5 0) ∧ (pb c 5 0 = true → t.flt.first = default) ∧
      t.flt.fltnHold = (s.flt.fltnHold && !(pb c 5 1 && decide (s.flt.st = .normal))) ∧
      answered { s with flt := t.flt } t 0x72 c 0 [t.faultStat])) ∧
    (served s 0x74 c → s.flt.st = .normal → s.flt.test = none → s.eng.outst.length < 16 →
      (fixedReact (pf c 2 0 8) = none → Ends (.faultTest c) s (fun t =>
        let q : FTest := { src := pf c 2 0 8, events := pf c 2 8 8, ticket := s.eng.nextTicket, severe := false,
                           react := 0, raised := false, aborted := false }
        later { s with flt := { s.flt with test := some q } } t 0x74 c .faultTest)) ∧
      ((fixedReact (pf c 2 0 8)).isSome = true → s.eng.cntNotPermitted < 255 → Ends (.faultTest c) s (fun t =>
        answered { s with eng := { s.eng with cntNotPermitted := s.eng.cntNotPermitted + 1 } } t 0x74 c 0x21 [])))

/-- Where no watch is outstanding and no port is armed for Park, ENTER_PARK and ENTER_CELLAR begin the ask step with the
snapshot as reference of the wake inputs (R83, R84, R264) and are refused while an entry is in progress. -/
def Obligations.EntryCommandsBeginTheAskStep : Prop :=
  ∀ (s : State) (c : HostCmd) (e : Entry),
    let begun := fun (cellar : Bool) (t : State) =>
      t.pwr = { s.pwr with entry := some { cellar := cellar, step := 1, since := s.now, ticket := s.eng.nextTicket
                                           granted := [], drained := false, okReply := 0, took := [] } } ∧
      ∀ n, n < 64 → t.si n = { s.si n with ref := (s.si n).snapState, parkRun := 0 }
    (∀ o ∈ s.eng.outst, isWatch o = false) →
    (s.eng.outst.length < 16 → s.pwr.entry = none →
      (served s 0x78 c → (∀ k, k < 64 → s.armed k = false) → Ends (.enterPark c) s (fun t =>
        begun false t ∧ later { s with pwr := t.pwr, port := t.port } t 0x78 c .entry)) ∧
      (served s 0x79 c → Ends (.enterCellar c) s (fun t =>
        begun true t ∧ later { s with pwr := t.pwr, port := t.port } t 0x79 c .entry))) ∧
    (s.pwr.entry = some e → served s 0x78 c → (∀ k, k < 64 → s.armed k = false) → s.eng.cntNotPermitted < 255 → Ends (.enterPark c) s (fun t =>
      answered { s with eng := { s.eng with cntNotPermitted := s.eng.cntNotPermitted + 1 } } t 0x78 c 0x21 [s.pwrStat]))

/-- HOLD_CONFIRM hands a held load channel back at the level at which it was held and counts it (R76), and one that a
thermal shutdown turned off stays off until a racking (R78, R201);
PEEK reads a word of SB4 and SB5, POKE writes it in the shared applet area and SB5, while a POKE to an applet
code area is refused BAD_PARAM and raises a bus event (R18, R149); BLOCK_RESET of LIN returns
its registers and channels to their Reset values until the reload at the next racking (R66, R69, R148). -/
def Obligations.HoldConfirmPeekPokeAndBlockReset : Prop :=
  ∀ (s : State) (c : HostCmd) (n a : Nat),
    (served s 0x7A c → n < 48 → c.node = 0x0100 + n → (s.ch n).keeper.held = true → s.pwr.holdState ≠ 2 →
      Ends (.holdConfirm c) s (fun t =>
        let m : DriveMode := if (s.ch n).keeper.level then .on else .off
        answered (s.updLoad n (fun ch => { ch with
          keeper := default, lossHeld := false, modeNew := false,
          thermRel := ch.thermRel || (ch.keeper.tripped && !ch.ocLatch && !ch.thermLatch)
          sh := { ch.sh with mode := m }, act := { ch.act with mode := m } })) t 0x7A c 0 [1])) ∧
    (s.pwr.fuseFailed = false → (pw c 2).toNat = a → a % 4 = 0 → sound s a → pf c 3 0 5 = 1 → pf c 3 8 2 = 0 →
      (served s 0x7E c → Ends (.peek c) s (fun t =>
        answered s t 0x7E c 0 [1, sbyte s (a + 3) ++ sbyte s (a + 2) ++ sbyte s (a + 1) ++ sbyte s a])) ∧
      (served s 0x7F c → a < 0x20048000 → mild s → s.eng.cntParam < 255 → Ends (.poke c) s (fun t =>
        answered { s with flt := t.flt, eng := { s.eng with cntParam := s.eng.cntParam + 1 } } t 0x7F c 0x14 [0])) ∧
      (served s 0x7F c → 0x20048000 ≤ a → memWf s.mem.bytes = true → Ends (.poke c) s (fun t =>
        answered { s with mem := t.mem } t 0x7F c 0 [1] ∧
        ∀ b, sbyte t b = if a ≤ b ∧ b < a + 4 then byteOf (pw c 4) (b - a) else sbyte s b))) ∧
    (served s 0x7B c → s.pwr.fuseFailed = false → pf c 2 0 5 = 8 → Ends (.blockReset c) s (fun t =>
      answered { s with regs := t.regs, svc := t.svc, clk := t.clk, lin := t.lin
                        pwr := { s.pwr with rstCause := s.pwr.rstCause ||| 64, blkAt := some s.now } } t 0x7B c 0 [] ∧
      t.lin = default ∧ (∀ r, 0x40080000 ≤ r → r < 0x40090000 → t.stored r = stRead [] r) ∧
      (∀ r, r < 0x40080000 ∨ 0x40090000 ≤ r → t.stored r = s.stored r) ∧
      t.clk = { s.clk with reload := insertAsc 8 s.clk.reload, gated := s.clk.gated ++ [(8, s.now)] }))

/-- The causes of the reset classes (R61, R65-R68, R98): a brown-out and a rail fault make a power-on reset that
keeps flash contents, fuses and pins; RSTN low for 1 µs, the watchdog after TIMEOUT press ticks without a racking, a
lockstep mismatch and a lost PLL lock make a warm reset with their cause bit and, for the last three, their fault source
held. Fewer missed ticks are only counted; a short RSTN pulse is ignored, and one between the limits does either. -/
def Obligations.ResetCauses : Prop :=
  ∀ (s : State) (at_ ns missed : Nat),
    let s0 := s.atPhase at_
    let cold := fun (t : State) =>
      t.regs = [] ∧ t.svc = [] ∧ t.live = default ∧ t.clk = clkReset ∧ t.load = State.reset.load ∧
      t.valve = State.reset.valve ∧ t.port = default ∧ t.field = fieldReset ∧ t.can = default ∧ t.lin = default ∧
      t.t1s = default ∧ t.nm = default ∧ t.tim = default ∧ t.core = coreReset ∧ t.mem = memReset ∧ t.flt = fltReset ∧
      t.link = linkReset ∧ t.eng = default ∧ t.vat = { (default : Vat) with stored := s.vat.stored } ∧
      t.feat.copyA = s.feat.copyA ∧ t.feat.copyB = s.feat.copyB ∧ t.supply.low = s.supply.low ∧ t.supply.ov = s.supply.ov ∧
      t.supply.vioOk = s.supply.vioOk ∧ t.acc.session = none ∧ t.pwr.powerOn = true ∧ t.pwr.booted = false ∧
      t.pwr.leaseEnd = none ∧ t.pwr.rstnLow = s.pwr.rstnLow ∧ t.pwr.limpActive = s.pwr.limpnLow
    (s.pwr.phase ≠ .off → Ends (.brownOut at_) s (fun t => cold t ∧ t.pwr.phase = .off ∧ t.pwr.rstCause = 1)) ∧
    (s.pwr.phase = .run ∨ s.pwr.phase = .startup ∨ s.pwr.phase = .park →
      Ends (.railFault at_) s (fun t => cold t ∧ t.pwr.phase = .startup ∧ t.pwr.rstCause = 2)) ∧
    (ns < 200 → Ends (.rstnLowPulse at_ ns) s (fun t => t = s0)) ∧
    (1000 ≤ ns → s0.rstnActs = true → Ends (.rstnLowPulse at_ ns) s (fun t =>
      warmed s0 t 2 ∧ t.pwr.rstnLow = true ∧ t.flt.held = s.flt.held)) ∧
    (200 ≤ ns → ns < 1000 → s0.rstnActs = true → Ends (.rstnLowPulse at_ ns) s (fun t =>
      t = { s0 with freeCtr := s.freeCtr + 1 } ∨ warmed s0 t 2)) ∧
    (s.inRun = true → 0 < missed →
      let timeout := s.cfg 0x40000010 0 7
      let passed := fun (k : Nat) => { s0 with
        clk := { s0.clk with tickNs := max (s.clk.tickNs + k * s.period) s0.now, phase := 0
                             tickCount := (s.clk.tickCount + k) % 2 ^ 32 }
        pwr := { s.pwr with wdgMissed := s.pwr.wdgMissed + k } }
      (s.pwr.wdgMissed < timeout → timeout ≤ s.pwr.wdgMissed + missed → Ends (.watchdogExpiry ⟨at_, missed⟩) s (fun t =>
        warmed (passed (timeout - s.pwr.wdgMissed)) t 3 ∧ t.flt.held = s.flt.held ++ [plainEvent 0x01 0])) ∧
      (s.pwr.wdgMissed + missed < timeout → exec (.watchdogExpiry ⟨at_, missed⟩) s = .next (passed missed))) ∧
    (s.running = true → Ends (.ceLockstepMismatch at_) s (fun t =>
      warmed s0 t 4 ∧ t.flt.held = s.flt.held ++ [plainEvent 0x00 0] ∧ t.flt.lastChip = 0x00)) ∧
    (s.running = true → s.clk.pllLock = true → Ends (.pllUnlock at_) s (fun t =>
      warmed s0 t 4 ∧ t.flt.held = s.flt.held ++ [plainEvent 0x03 0] ∧ t.flt.lastChip = 0x03))

/-- The start of the boot ROM (R67, R70, R71): the supply rise starts it unless RSTN is low, the release of RSTN
and the end of the wait after another warm cause start it. It reads the fuses in up to three pairs (R31, R32), finds the clock source or the fail-over state (R96)
and leaves the SRAM cleared (R460), and the first press tick waits for it. The first press tick and every later one
set TB0 and start a frame at phase 0 (R111, R330). -/
def Obligations.StartUp : Prop :=
  ∀ (s : State) (at_ : Nat) (b : BootIn) (i : TickIn),
    let booted := fun (t : State) =>
      t.pwr.booted = true ∧ t.pwr.phase = .startup ∧ t.pwr.fuseFailed = !fuseAccepted b.fuses ∧
      t.clk.failOver = decide (xclkFound b = 0) ∧ t.clk.xclkSel = xclkFound b ∧ t.tim.tb0Rc = t.clk.failOver ∧ t.clk.src = (if t.clk.failOver then 2 else 1) ∧
      t.mem.bytes = [] ∧ t.mem.poison = [] ∧ t.regs = s.regs ∧ t.svc = s.svc ∧ t.live = s.live ∧ t.vat = s.vat ∧
      t.link = s.link ∧ t.eng = s.eng ∧ t.core = s.core ∧ t.pwr.rstCause = s.pwr.rstCause ∧
      t.pwr.powerOn = s.pwr.powerOn
    (s.pwr.phase = .off → s.pwr.rstnLow = true → Ends (.vbatPowerOn b) s (fun t =>
      t.pwr.phase = .startup ∧ t.pwr.booted = s.pwr.booted ∧ t.pwr.limpActive = (s.pwr.limpActive || s.pwr.limpnLow) ∧
      t = { s with pwr := t.pwr, load := t.load, evSeq := s.evSeq + 1 } ∧ (s.pwr.limpnLow = false → t.load = s.load))) ∧
    (s.pwr.phase = .off → s.pwr.rstnLow = false → s.pwr.booted = false → Ends (.vbatPowerOn b) s (fun t =>
      booted t ∧ t.pwr.limpActive = (s.pwr.limpActive || s.pwr.limpnLow))) ∧
    (s.pwr.phase = .startup → s.pwr.booted = false →
      Ends (.rstnRelease at_ b) s (fun t => booted t ∧ t.pwr.rstnLow = false) ∧
      (s.pwr.rstnLow = false → Ends (.bootRomStart at_ b) s booted)) ∧
    (s.pwr.phase = .startup → s.pwr.booted = true → s.pwr.rstnLow = false → s.appTodo = [] →
      Ends (.firstPressTick i) s (fun t =>
        t.clk.tickNs = (if s.pwr.powerOn then s.now else s.now + 10 * i.slip) ∧ t.clk.phase = 0)) ∧
    (s.inRun = true → s.pwr.woken = false → s.appTodo = [] → Ends (.pressTick i) s (fun t =>
      t.clk.tickNs = max s.now (s.clk.tickNs + s.period + if s.clk.slipDue then 10 * min i.slip (15000 - s.clk.slipSum) else 0) ∧
      t.clk.phase = 0))

/-- The supply monitors (R61, R62, R65): low supply and overvoltage hold every output and the LF drivers off at once and
the boost in HELD, count one event, and hand a waiting turn-on over to the commands; their end lets the outputs back at
the next racking (in Park at once, log 90) and the boost charge again. The clock monitor (R97-R100): two
consecutive windows of 16 µs outside ±12.5 % begin the fail-over, one alone is only counted; the divider steps and the
PLL locks again. The hold lease (R77) and LIMPN (R79, R80). -/
def Obligations.SupplyClockLeaseAndLimp : Prop :=
  ∀ (s : State) (at_ w1 w2 : Nat),
    let s0 := s.atPhase at_
    let held : ValveBlk :=
      if s.valve.boost = .charge ∨ s.valve.boost = .ready then { s.valve with boost := .held, switching := false } else s.valve
    let lfOff := { s.acc with challenge := s.acc.challenge.map (fun c => { c with supply := true }) }
    let stopped := fun (t : State) =>
      (∀ n, n < 48 → t.gate n = false) ∧ ∀ n, n < 48 → (s.ch n).pend = none → looked (s.ch n) (t.ch n)
    let back := fun (other : Bool) (t : State) =>
      (∀ n, n < 48 → looked (s.ch n) (t.ch n)) ∧ t.valve.v = s.valve.v ∧ t.valve.b = s.valve.b ∧
      t.valve.queue = s.valve.queue ∧ t.supply.relDue = (if other then s.supply.relDue else s.running) ∧
      t.valve.boost = (if other = false ∧ s.valve.boost = .held then .charge else s.valve.boost)
    let clk1 := { s0.clk with lastCount := min w1 1023 }
    (s.supply.low = false → calm s → Ends (.lowSupplyEntry at_) s (fun t =>
      counted { s0 with supply := { s.supply with low := true, lowSeen := true, lowAt := some s0.now }
                        valve := held, acc := lfOff, load := t.load, port := t.port, freeCtr := t.freeCtr } t 0x04 ∧ stopped t)) ∧
    (s.supply.ov = false → calm s → Ends (.overvoltageEntry at_) s (fun t =>
      counted { s0 with supply := { s.supply with ov := true, ovSeen := true, ovAt := some s0.now }
                        valve := held, acc := lfOff, load := t.load } t 0x05 ∧ stopped t)) ∧
    (s.supply.low = true → Ends (.lowSupplyEnd at_) s (fun t =>
      t = { s0 with supply := t.supply, valve := t.valve, load := t.load, port := t.port, freeCtr := t.freeCtr } ∧
      t.supply.low = false ∧ t.supply.ov = s.supply.ov ∧ back s.supply.ov t)) ∧
    (s.supply.ov = true → Ends (.overvoltageEnd at_) s (fun t =>
      t = { s0 with supply := t.supply, valve := t.valve, load := t.load } ∧
      t.supply.ov = false ∧ t.supply.low = s.supply.low ∧ back s.supply.low t)) ∧
    (s.supply.vioOk = true → calm s → Ends (.vioLow at_) s (fun t =>
      counted { s0 with supply := { s.supply with vioOk := false }, link := { s.link with vioLost := true } } t 0x07)) ∧
    Ends (.vioRestored at_) s (fun t => t = { s0 with supply := { s.supply with vioOk := true } }) ∧
    (s.inRun = true → s.clk.failOver = false → s.clk.src = 1 → s.clk.badWin = false →
      (windowFails s.clk.xclkSel w1 = false → exec (.xclkFailure at_ [w1]) s = .next { s0 with clk := { clk1 with xclkOk := true } }) ∧
      (windowFails s.clk.xclkSel w1 = true →
        exec (.xclkFailure at_ [w1]) s = .next { s0 with clk :=
          { clk1 with failWin := satInc s.clk.failWin 255, xclkOk := false, badWin := true } } ∧
        (calm s → windowFails s.clk.xclkSel w2 = true → Ends (.xclkFailure at_ [w1, w2]) s (fun t =>
          t.clk = { s0.clk with lastCount := min w2 1023, failWin := satInc (satInc s.clk.failWin 255) 255
                                xclkOk := false, badWin := true, failOver := true, rampDir := 1
                                slipDue := true, slipSum := 0 } ∧
          t.tim = { s.tim with tb0Rc := true, rcSeen := true, rcAt := some s0.now } ∧ t.pwr.nmi = true ∧
          (t.src 0x02).total = satInc (s.src 0x02).total 255 ∧ t.load = s.load ∧ t.core = s.core ∧ t.mem = s.mem ∧
          ∀ k, k < 4 → hasCan s.var k = true → (t.canc k).st = .halted)))) ∧
    (Ends (.dividerStep at_) s (fun t => t = { s0 with clk := t.clk } ∧
      (s.clk.rampDir = 1 → s.clk.rampExp < 3 → t.clk = { s0.clk with
        rampExp := s.clk.rampExp + 1, pllLock := s.clk.pllLock && decide (s.clk.rampExp ≠ 2) }) ∧
      (s.clk.rampDir = 2 → 1 < s.clk.rampExp → t.clk = { s0.clk with rampExp := s.clk.rampExp - 1 }) ∧
      (s.clk.rampDir = 2 → s.clk.rampExp = 1 → t.clk = { s0.clk with
        rampExp := 0, rampDir := 0, src := if s.clk.failOver then 2 else s.clk.src }))) ∧
    (s.clk.failOver = true → s.clk.rampDir = 1 → s.clk.rampExp = 3 → Ends (.pllRelockRc at_) s (fun t =>
      t = { s0 with clk := { s0.clk with pllLock := true, rampDir := 2 } })) ∧
    (s.pwr.holdState = 1 → (∃ e, s.pwr.leaseEnd = some e ∧ e ≤ s0.now) → Ends (.holdLeaseExpiry at_) s (fun t =>
      t = { s0 with load := t.load, pwr := { s.pwr with leaseEnd := none, holdState := t.pwr.holdState } } ∧
      t.pwr.holdState = (if (List.range (lcCount s.var)).any (fun n => (s.ch n).keeper.held) then 2 else 0) ∧
      ∀ n, n < lcCount s.var → noted { s.ch n with keeper := if (s.ch n).keeper.held
        then { (s.ch n).keeper with level := s.limpState n } else (s.ch n).keeper } (t.ch n))) ∧
    (s.powered = true → s.pwr.limpActive = false → Ends (.limpnAsserted at_) s (fun t =>
      t = { s0 with load := t.load
                    pwr := { s.pwr with limpActive := true, limpRel := false, limpnLow := true } } ∧
      ∀ n, n < lcCount s.var → noted { s.ch n with limpLevel := s.limpState n } (t.ch n))) ∧
    Ends (.limpnReleased at_) s (fun t =>
      t = { s0 with load := t.load
                    pwr := { s.pwr with limpnLow := false, limpActive := false
                                        limpRel := s.pwr.limpRel || (s.pwr.limpActive && s.inRun) } } ∧
      ∀ n, n < 48 → looked (s.ch n) (t.ch n))

/-- The link (R119-R135): HMISO carries the status word, then the replies read or zeros; without VIO nothing happens. A
good packet in sequence enters the queue of its racking and is answered there; one with
a wrong CRC, out of sequence or without a place is answered at once and changes nothing else; a reply-read
transaction that takes the whole first reply removes it; what is neither, and what the HCLK timeout cuts, is
counted; a held reply moves into the queue; a deferred command executes; and at step 1 of a frame the loss monitor
enters Lost. -/
def Obligations.LinkTransactions : Prop :=
  ∀ (s : State) (at_ n cause : Nat) (w0 : Word) (ws : List Word) (m3 : Bool) (first : Option Word) (r : Reply)
    (rest : List Reply) (d : Deferred),
    let s0 := s.atPhase at_
    let c := packetOf (w0 :: ws)
    let op := bits w0 8 8
    let good := bits w0 24 8 = 0xA5 ∧ ws.length = 2 + bits w0 0 8 ∧ 4 * (ws.length + 1) ≤ s.rxFree
    let echo := s0.statusWord :: List.replicate ws.length 0
    let crcOk := crc32 ((w0 :: ws).take (ws.length)) = (w0 :: ws)[ws.length]?.getD 0
    let inSeq := s.link.fresh = true ∨ c.seq = s.link.expect
    let up := s.linkUp = true ∧ s.draining = false
    let traffic := fun (l l' : Link) =>
      l'.errRun = 0 ∧ l'.silentFrom = s0.now ∧ l'.lastTb0 = s0.now % 2 ^ 32 ∧ l'.mode3 = m3 ∧ l'.held = l.held ∧
      l'.hcsnLow = false
    let said := fun (t : State) (st : Nat) =>
      ∃ x, t.link.replies ++ t.link.held = s.link.replies ++ s.link.held ++ [x] ∧ x.num = s.link.nextNum ∧
        x.seq = c.seq ∧ x.op = op ∧ x.node = c.node ∧ x.status = st ∧ x.payload = []
    (up → good → crcOk → inSeq → s.link.held = [] → s.arrivalStatus op c = none → s0.queueAccepts op c = true →
      Ends (.commandTransaction at_ (w0 :: ws) m3) s (fun t =>
        t = { s0 with link := t.link, eng := s.eng.push s0.lateInFrame ⟨op, c, chargeOf op c, cLater c != 0, none, 0⟩ } ∧
        traffic s.link t.link ∧ t.link.replies = s.link.replies ∧ t.link.fresh = false ∧ t.link.lastSeq = c.seq ∧
        t.link.expect = (c.seq + 1) % 256 ∧ t.link.miso = echo)) ∧
    (up → good → crcOk → ¬inSeq → s.link.held = [] → Ends (.commandTransaction at_ (w0 :: ws) m3) s (fun t =>
      t = { s0 with link := t.link, evSeq := s.evSeq + 2 } ∧ said t 0x11 ∧
      t.link.errSeq = satInc s.link.errSeq 255 ∧ t.link.expect = s.link.expect ∧ t.link.miso = echo)) ∧
    (up → good → crcOk → inSeq → s.link.held = [] → s.arrivalStatus op c = none → s0.queueAccepts op c = false →
      Ends (.commandTransaction at_ (w0 :: ws) m3) s (fun t =>
        t = { s0 with link := t.link, evSeq := s.evSeq + 2 } ∧ said t 0x30 ∧
        t.link.errBusy = satInc s.link.errBusy 255 ∧ t.link.expect = s.link.expect)) ∧
    (up → good → ¬crcOk → s.link.held = [] → calm s → Ends (.commandTransaction at_ (w0 :: ws) m3) s (fun t =>
      t = { s0 with link := t.link, flt := t.flt, evSeq := s.evSeq + 2 } ∧ said t 0x10 ∧
      t.link.errCrc = satInc s.link.errCrc 255 ∧ t.link.errRun = s.link.errRun + 1 ∧
      (t.src 0x14).total = satInc (s.src 0x14).total 255)) ∧
    (s.linkUp = true → s.link.replies = r :: rest → s.link.held = [] → n = replyLen r + 1 →
      Ends (.replyReadTransaction at_ 0x5A000000 n m3) s (fun t =>
        t = { s0 with link := t.link } ∧ traffic s.link t.link ∧ t.link.replies = rest ∧
        t.link.miso = s0.statusWord :: replyWords r)) ∧
    (s.linkUp = true → (∀ w, first = some w → bits w 24 8 ≠ 0xA5 ∧ w ≠ 0x5A000000) →
      Ends (.invalidTransaction at_ first m3) s (fun t =>
        t = { s0 with link := { s.link with
          mode3 := m3, hcsnLow := false, miso := [s0.statusWord], errFraming := satInc s.link.errFraming 255, errRun := s.link.errRun + 1 } })) ∧
    (s.linkUp = true → Ends (.hclkIdleAbort at_ [] m3) s (fun t =>
      t = { s0 with link := { s.link with
        mode3 := m3, hcsnLow := true, miso := [s0.statusWord], idleAbort := satInc s.link.idleAbort 255, errRun := s.link.errRun + 1 } })) ∧
    (s.linkUp = false → exec (.commandTransaction at_ (w0 :: ws) m3) s = .next s0) ∧
    (s.link.held = [r] → s.link.fits r = true → Ends (.heldReplyPosted at_) s (fun t =>
      t.link.held = [] ∧ t.link.replies.map (·.payload) = s.link.replies.map (·.payload) ++ [r.payload] ∧
      t = { s0 with link := t.link, port := t.port, field := t.field, flt := t.flt })) ∧
    (s.inRun = true → s.eng.deferred = [d] → d.left = 0 → d.cmd.op = 0x00 → s.targetStands 0x00 d.cmd.cmd = true →
      Ends (.deferredCommandDue at_) s (fun t =>
        answered { s0 with eng := { s.eng with deferred := [] } } t 0x00 d.cmd.cmd 0 [])) ∧
    (calm s → s0.clk.phase ≤ 100 → s0.lossCause = cause → cause = 1 ∨ cause = 2 →
      Ends (if cause = 1 then .hostLossTimeout at_ else .hostLossErrLimit at_) s (fun t =>
        t.link = { s.link with lossState := 2, lost := true, lostAt := some s0.now, lossCause := cause
                               lossCount := satInc s.link.lossCount 255 } ∧
        (t.src 0x13).total = satInc (s.src 0x13).total 255 ∧ t.eng = s.eng ∧ t.regs = s.regs ∧ t.core = s.core ∧
        (∀ k, k < lcCount s.var → (t.ch k).keeper.held = (s.ch k).keeper.held ∧
          ((s.ch k).keeper.held = false → s.cfg lossCfg 16 2 ≠ 0 →
            (t.ch k).lossHeld = true ∧ (t.ch k).lossLevel = s.limpState k)) ∧
        (s.cfg lossCfg 16 2 ≠ 2 → t.valve = s.valve ∧ t.field = s.field)))

/-- The rest of a frame (R112, R114, R190): step 6 samples every unit once, at the end of the diagnostic window;
the close of the applet window cuts the applet that runs and skips the others; and the end of a store write makes
the slot READY with its code and answers the command (R416, R417). -/
def Obligations.FrameSteps : Prop :=
  ∀ (s : State) (at_ : Nat) (d : DiagIn) (i : Fin 8) (q : Outst) (h : AppHead) (o : FlashOut),
    let s0 := s.atPhase at_
    (calm s → s.clk.tickCount ≠ 0 → s.clk.sampled = false → 3 * s.period ≤ 40 * s0.clk.phase →
      Ends (.diagnosticSampling at_ d) s (fun t =>
        t.clk = { s0.clk with sampled := true } ∧ t.regs = s.regs ∧ t.svc = s.svc ∧ t.link = s.link ∧ t.eng = s.eng ∧
        t.core = s.core ∧ t.mem = s.mem ∧ t.pwr = s.pwr ∧
        (∀ n, n < lcCount s.var → (t.ch n).act = (s.ch n).act ∧
          (s.clk.loadRst = true → (t.ch n).shot.sampled = false ∧ (t.ch n).diag = (s.ch n).diag) ∧
          (s.clk.loadRst = false →
            let m := d.load[n]?.getD default
            let smp := ((s0.sweepPorts.sweepLoads).ch n).smp.reverse
            let i := (onMean smp m.ma).getD (s.ch n).diag.ioutOn % 65536
            (t.ch n).diag.sampled = true ∧ (t.ch n).shot = (t.ch n).diag ∧
            (t.ch n).diag.vout = voltMean ((smp.zip m.mv10).map (·.2)) (s.ch n).diag.vout ∧
            (t.ch n).diag.stale = (onMean smp m.ma).isNone ∧ (t.ch n).diag.ioutOn = i ∧
            ((s.ch n).act.mode = .on → (t.ch n).diag.ioutAvg = i) ∧
            ((s.ch n).act.mode = .off → (t.ch n).diag.ioutAvg = 0 ∧ (t.ch n).diag.duty = 0))) ∧
        (∀ n, n < 8 → hasValve s.var n = true → (t.vl n).imeas = d.valveMa[n]?.getD 0 ∧ (t.vl n).st = (s.vl n).st) ∧
        ∀ b, b < 4 → hasBank s.var b = true → (t.vb b).ibank = d.bankMa[b]?.getD 0)) ∧
    (calm s → 9 * s.period ≤ 100 * s0.clk.phase → s.appTodo ≠ [] → Ends (.appletWindowClose at_) s (fun t =>
      t.appTodo = [] ∧ t.clk = { s0.clk with overrun := satInc s.clk.overrun 255 } ∧
      (t.src 0x11).total = satInc (s.src 0x11).total 255 ∧ t.regs = s.regs ∧ t.load = s.load ∧ t.mem = s.mem ∧
      t.core = { s.core with run := if s.core.run = .running then .cut else s.core.run } ∧
      (s.core.run ≠ .running → t.app = s.app) ∧
      (s.core.run = .running → s.core.slot < 8 → (t.slot s.core.slot).cuts = satInc (s.slot s.core.slot).cuts 255 ∧
        (t.slot s.core.slot).lastCycles = s.core.cycles))) ∧
    (s.eng.outst = [q] → q.wait = .appletStore i false → q.answer = none → (s.slot i).load = some h → o = .good →
      Ends (.appletStoreWritten at_ i o) s (fun t =>
        t.slot i = { s.slot i with
          store := some (h, s.codeWords i h.codeSize), gen := (s.slot i).gen + 1, load := none, st := .ready } ∧
        (∀ k, k ≠ i.val → t.slot k = s.slot k) ∧ t.eng.outst = [{ q with answer := some (0, []) }])) ∧
    (s.eng.outst = [q] → q.wait = .appletStore i true → q.answer = none → o = .good →
      Ends (.appletStoreWritten at_ i o) s (fun t =>
        t.slot i = { s.slot i with store := none, st := if (s.slot i).st = .ready then .empty else (s.slot i).st } ∧
        (∀ k, k ≠ i.val → t.slot k = s.slot k) ∧ t.eng.outst = [{ q with answer := some (0, []) }]))

/-- What a load channel does by itself (R176, R177, R183, R185-R188): the offset of a WAIT, a ramp and a pulse
train end, DEMAG ends with its measurements and lets a pending turn-on act, a clamp that lasts too long is counted;
and after four periods in a row above FMAX, or four within it, a pin holds the channels in mode PIN on it off, or drives
them again. What the channel did before is noted first (State.sweepLoad), which changes no set-point. -/
def Obligations.LoadDriveEvents : Prop :=
  ∀ (s : State) (at_ uj high per : Nat) (n : Fin 48) (p : Fin 8) (r : Nat × Nat × Nat) (l : Bool) (x : Nat) (sp : SetPt)
    (periods : List Nat),
    let s0 := s.atPhase at_
    let w := s0.sweepLoad n
    let ch := s.ch n
    let others := fun (t : State) => ∀ k, k ≠ n.val → t.ch k = s.ch k
    let settled := fun (m : DriveMode) (c : LoadCh) => { c with
      act := { c.act with mode := m }, modeAt := s0.now, sh := if c.modeNew then c.sh else { c.sh with mode := m } }
    let pinNow := fun (over_ : Bool) => ({ level := true, rise := s0.now, per := per, high := high
                                           freq := min 8191 (1000000000 / per), duty := min 4095 (4095 * high / per)
                                           lastRise := some s0.now, overFF := over_ } : PwmPin)
    let onP := fun (k : Nat) => (s.ch k).act.mode = .pin ∧ s.cfg (lcBase k) 2 3 = p.val
    (ch.act.mode = .wait → ch.modeAt + ch.act.offset * 100000 ≤ s0.now → ch.demagAt = none → ch.pend = none →
      ch.act.after ≠ .pin ∨ calm s → Ends (.staggerElapsed at_ n) s (fun t =>
        t = { s0 with load := t.load, flt := t.flt } ∧ others t ∧
        (ch.act.after ≠ .pin ∨ (s.pinOf n).overFF = false → t.flt = s.flt) ∧
        (t.ch n).act = { ch.act with mode := ch.act.after, offset := 0 } ∧ (t.ch n).modeAt = s0.now ∧
        (t.ch n).sh = (if ch.modeNew then ch.sh else { ch.sh with mode := ch.act.after }))) ∧
    (ch.act.mode = .wait → ch.modeAt + ch.act.offset * 100000 ≤ s0.now → ch.demagAt = some x → ch.pend = none →
      Ends (.staggerElapsed at_ n) s (fun t => t = w.updLoad n (fun c => { c with
        pend := some { c.sh with mode := ch.act.after, ramp := ch.act.ramp } }))) ∧
    (ch.act.mode = .ramp → genRun ch.gen (s0.eAt s0.now) = (some r, l) → 4095 ≤ runDuty ch r (s0.eAt s0.now) →
      Ends (.rampComplete at_ n) s (fun t => t = w.updLoad n (settled .on))) ∧
    (ch.act.mode = .pulse → ch.modeAt + trainNs ch.act.train ≤ s0.now →
      (ch.act.train.pol = true → Ends (.pulseTrainComplete at_ n) s (fun t => t = w.updLoad n (settled .on))) ∧
      (ch.act.train.pol = false → Ends (.pulseTrainComplete at_ n) s (fun t => t = w.updLoad n (fun c =>
        if s.owner n = 0 then { settled .off c with demagAt := some (ch.modeAt + trainNs ch.act.train), clampSeen := false }
        else settled .off c)))) ∧
    (ch.demagAt = some x → ch.pend = none → Ends (.demagEnd at_ n uj) s (fun t => t = w.updLoad n (fun c => { c with
      demagAt := none, demagTime := min 65535 ((s0.now - x) / 1000), demagMj := min 4095 (uj / 1000)
      clampUj := c.clampUj + uj }))) ∧
    (ch.demagAt = some x → ch.pend = some sp → s.pendFresh n = false → sp.mode ≠ .pin ∨ calm s →
      Ends (.demagEnd at_ n uj) s (fun t =>
      t = { s0 with load := t.load, flt := t.flt } ∧ others t ∧ (sp.mode ≠ .pin → t.flt = s.flt) ∧
      (t.ch n).demagAt = none ∧ (t.ch n).pend = none ∧ (t.ch n).sh = sp ∧
      (t.ch n).demagTime = min 65535 ((s0.now - x) / 1000) ∧ (t.ch n).demagMj = min 4095 (uj / 1000) ∧
      (t.ch n).act.mode = sp.mode ∧ (t.ch n).act.duty = sp.duty ∧ (t.ch n).act.freq = sp.freq)) ∧
    (ch.demagAt = some x → ch.pend = some sp → s.pendFresh n = true → Ends (.demagEnd at_ n uj) s (fun t =>
      t = { s0 with load := t.load } ∧ others t ∧ (t.ch n).demagAt = none ∧ (t.ch n).pend = none ∧ (t.ch n).sh = sp ∧
      (t.ch n).modeNew = true ∧ (t.ch n).act = ch.act)) ∧
    (ch.demagAt = some x → x + 100000000 < s0.now → ch.clampSeen = false → calm s → Ends (.clampLong at_ n) s (fun t =>
      counted (s0.updLoad n (fun c => { c with clampSeen := true, clampLong := satInc c.clampLong 255 })) t 0x1A)) ∧
    (4 ≤ periods.length → periods.getLast? = some per → 0 < per →
      ((∀ t ∈ periods.drop (periods.length - 4), t * s.fmax p < 1000000000) → calm s →
        Ends (.pinOverFrequency at_ p periods high) s (fun t =>
          t = { s0 with pins := t.pins, load := t.load, flt := t.flt } ∧ vget t.pins p = pinNow true ∧
          (∀ q, q ≠ p.val → vget t.pins q = vget s.pins q) ∧ (∀ k, k < 48 → looked (s.ch k) (t.ch k)) ∧
          (∀ k, k < 48 → onP k → t.pinFault k = true ∧ t.cmdLevel k t.now = false) ∧
          (s.loads.filter (fun k => t.pinFault k && !s.pinFault k) = [x] → (t.src 0x1B).total = satInc (s.src 0x1B).total 255))) ∧
      ((∀ t ∈ periods.drop (periods.length - 4), 1000000000 ≤ t * s.fmax p) →
        Ends (.pinFrequencyOk at_ p periods high) s (fun t =>
          t = { s0 with pins := t.pins, load := t.load } ∧ vget t.pins p = pinNow false ∧
          (∀ q, q ≠ p.val → vget t.pins q = vget s.pins q) ∧ (∀ k, k < 48 → looked (s.ch k) (t.ch k)) ∧
          ∀ k, k < 48 → onP k → t.pinFault k = false)))

/-- The protection of a load channel (R194-R201) and of a cluster (R212): the current above the threshold latches
the channel off and starts its retry delay, or locks it with no retry left; a retry that falls due while the
channel is too hot waits; a second without a latch refills the retries; the thermal latch sets, and when it clears the
channel restarts at a racking, whichever rung drives it. A keeper that holds the channel notes that it tripped (R78). -/
def Obligations.LoadProtectionEvents : Prop :=
  ∀ (s : State) (at_ ma x : Nat) (n : Fin 48) (c : Fin 16),
    let s0 := s.atPhase at_
    let ch := s.ch n
    let others := fun (t : State) => t = { s0 with load := t.load, flt := t.flt } ∧ ∀ k, k ≠ n.val → t.ch k = s.ch k
    (s0.gate n = true → ocThreshold n (s.cfg (lcProt n) 0 4) < ma → calm s →
      Ends (.ocLatchOff at_ n ma) s (fun t => others t ∧
        (t.src 0x16).total = satInc (s.src 0x16).total 255 ∧ (t.ch n).ocLatch = true ∧ t.gate n = false ∧
        (t.ch n).ocEvents = satInc ch.ocEvents 255 ∧ (t.ch n).lastLatch = some s0.now ∧ (t.ch n).act = ch.act ∧
        (t.ch n).keeper = { ch.keeper with tripped := ch.keeper.held } ∧
        (ch.retryLeft ≠ 0 → (t.ch n).locked = ch.locked ∧
          (t.ch n).retryAt = some (s0.now + s.retryDelay n ch.retryLeft * 1000000)) ∧
        (ch.retryLeft = 0 → (t.ch n).locked = true ∧ (t.ch n).retryAt = none ∧
          (t.src 0x18).total = satInc (s.src 0x18).total 255))) ∧
    (ch.retryAt = some x → x ≤ s0.now → Ends (.retryDue at_ n) s (fun t =>
      t = if ch.thermLatch then s0.updLoad n (fun c => { c with retryHeld := true }) else s0)) ∧
    (ch.lastLatch = some x → x + 1000000000 ≤ s0.now → Ends (.retryRefill at_ n) s (fun t =>
      t = s0.updLoad n (fun c => { c with retryLeft := s.cfg (lcProt n) 16 4, lastLatch := none }))) ∧
    (hasLoad s.var n = true → ch.thermLatch = false → calm s → Ends (.thermalShutdown at_ n) s (fun t => others t ∧
      (t.src 0x17).total = satInc (s.src 0x17).total 255 ∧ (t.ch n).thermLatch = true ∧ (t.ch n).thermRel = false ∧
      t.gate n = false ∧ (t.ch n).thermEvents = satInc ch.thermEvents 255 ∧ (t.ch n).pend = none ∧
      (t.ch n).keeper = { ch.keeper with tripped := ch.keeper.held } ∧
      (t.ch n).retryHeld = (ch.retryHeld || s0.retryIsDue n) ∧ (ch.pend = none → (t.ch n).act = ch.act))) ∧
    (ch.thermLatch = true → Ends (.thermLatchClear at_ n) s (fun t => t = s0.updLoad n (fun c => { c with
      thermLatch := false
      thermRel := !c.ocLatch && (s.pwr.limpActive || s.pwr.limpRel || c.safeHeld || c.lossHeld || c.keeper.held ||
        (commanded c).mode != .off) }))) ∧
    ((s.cl c).overFrom = some x → x + 100000000 ≤ s0.now → calm s → Ends (.thermOver at_ c) s (fun t =>
      counted (s0.updCl c (fun k => { k with overFrom := some s0.now })) t 0x21))

/-- b is valve a, or a with its RELEASE slowed by a peak of the other valve of the bank (R237). -/
def Sys2Proof.Claims.slowed (a b : Valve) : Prop := b = a ∨ (a.st = .release ∧ b = { a with relSlowed := true })

/-- The firing profile of a valve (R228, R230, R236, R237, R239, R240): a queued peak starts at the head of its group, on
the VBOOST of that instant, and slows a RELEASE beside it; at its end the valve drops, is released where DURATION has
ended, or is found open; the drop leads to HOLD, the end of DURATION to RELEASE, and a completed RELEASE to OFF, to HOLD
or to a peak that was waiting, with the measured times and energies. -/
def Obligations.ValveFiringEvents : Prop :=
  ∀ (s : State) (at_ vb top us e : Nat) (n : Fin 8) (reached : Bool),
    let s0 := s.atPhase at_
    let v := s.vl n
    let only := fun (t : State) => t = { s0 with valve := t.valve, flt := t.flt } ∧ ∀ k, k ≠ n.val → slowed (s.vl k) (t.vl k)
    let started := fun (req : Nat) (t : State) =>
      n.val ∉ t.valve.queue ∧ (t.vl n).st = .peak ∧ (t.vl n).peakAt = s0.now ∧ (t.vl n).firing = true ∧
      (t.vl n).boostNr = decide (vb < s.readyLevel) ∧ (t.vl n).deferUs = min 65535 ((s0.now - req) / 1000) ∧
      t.valve.cntNotReady = (if vb < s.readyLevel then satInc s.valve.cntNotReady 255 else s.valve.cntNotReady) ∧
      (t.src 0x27).total = (if vb < s.readyLevel then satInc (s.src 0x27).total 255 else (s.src 0x27).total) ∧
      ((s.vl (partner n)).st = .release → (t.vl (partner n)).relSlowed = true)
    let ended := v.st = .release ∧ (reached = true ∨ v.phaseAt + s.decayNs n ≤ s0.now)
    (s.mayStart n = true → calm s → Ends (.peakStart at_ n vb) s (fun t => only t ∧ started v.reqAt t ∧
      t.valve.vbNow = vb ∧ (t.vl n).durAt = (if v.keepOrigin then v.durAt else s0.now))) ∧
    (v.st = .peak → v.peakAt + s.peakNs n ≤ s0.now ∨ durOver v s0.now = true → calm s →
      Ends (.peakEnd at_ n top us e) s (fun t =>
      t = { s0 with valve := t.valve, flt := t.flt } ∧ (∀ k, k ≠ n.val → t.vl k = s.vl k) ∧
      (t.vl n).accBoost = v.accBoost + e ∧ (t.vl n).reachUs = (if s.iPeak n ≤ top then min us 65534 else 0xFFFF) ∧
      (t.vl n).open_ = (v.open_ || decide (5 * top < s.iPeak n)) ∧
      (t.vl n).peakMiss = (v.peakMiss || decide (s.iPeak n ≤ 5 * top ∧ top < s.iPeak n)) ∧
      (t.src 0x25).total = (if 5 * top < s.iPeak n then satInc (s.src 0x25).total 255 else (s.src 0x25).total) ∧
      (t.src 0x26).total =
        (if s.iPeak n ≤ 5 * top ∧ top < s.iPeak n then satInc (s.src 0x26).total 255 else (s.src 0x26).total) ∧
      (5 * top < s.iPeak n ∨ durOver v s0.now = true → (t.vl n).st = .release ∧ (t.vl n).phaseAt = s0.now) ∧
      (s.iPeak n ≤ 5 * top → durOver v s0.now = false → (t.vl n).st = .drop ∧ (t.vl n).phaseAt = s0.now))) ∧
    (v.st = .drop → reached = true ∨ v.phaseAt + s.decayNs n ≤ s0.now → Ends (.dropEnd at_ n reached e) s (fun t =>
      t = s0.updValve n (fun v => { v with
        st := .hold, dropUs := min 65535 ((s0.now - v.phaseAt) / 1000), decayLong := v.decayLong || !reached
        accRec := v.accRec + e, phaseAt := s0.now }))) ∧
    (v.st = .hold → durOver v s0.now = true → Ends (.holdDurationEnd at_ n) s (fun t => only t ∧ t.flt = s.flt ∧
      (t.vl n).st = .release ∧ (t.vl n).phaseAt = s0.now ∧ (t.vl n).duration = 0 ∧
      (t.vl n).relSlowed = (v.relSlowed || decide ((s.vl (partner n)).st = .peak)))) ∧
    (ended →
      (v.pend = none → Ends (.valveReleaseComplete at_ n reached ⟨e, vb⟩) s (fun t => only t ∧ t.flt = s.flt ∧
        (t.vl n).st = .off ∧ (t.vl n).ovr = 0 ∧ (t.vl n).decayLong = (v.decayLong || !reached) ∧
        (t.vl n).relUs = min 65535 ((s0.now - v.phaseAt) / 1000) ∧ (t.vl n).duration = 0 ∧ (t.vl n).firing = false ∧
        (v.firing = true → (t.vl n).fires = (v.fires + 1) % 65536 ∧ (t.vl n).eBoost = min 65535 v.accBoost ∧
          (t.vl n).eRec = min 65535 (v.accRec + e)) ∧
        (v.firing = false → (t.vl n).fires = v.fires))) ∧
      (v.pend = some (.hold us top) → Ends (.valveReleaseComplete at_ n reached ⟨e, vb⟩) s (fun t => only t ∧
        t.flt = s.flt ∧ (t.vl n).st = .hold ∧ (t.vl n).duration = us ∧ (t.vl n).ovr = top ∧ (t.vl n).pend = none)) ∧
      (v.pend = some (.fire us) → s.holdOff = false → calm s →
        s.valve.queue.find? (fun p => s.groupOf p == s.groupOf n) = some n.val →
        (∀ p, p < 8 → s.groupOf p = s.groupOf n → (s.vl p).st ≠ .peak) → (s.vl (partner n)).st ≠ .drop →
        Ends (.valveReleaseComplete at_ n reached ⟨e, vb⟩) s (fun t => only t ∧ started v.reqAt t ∧
          (t.vl n).duration = us ∧ (t.vl n).pend = none)))

/-- The protection of the valves (R230, R241, R242) and the boost converter (R225-R227): the converter stops switching at
VTARGET and starts again 0.5 V below it. The energy of a peak that protection cuts is a free value (log 96). -/
def Obligations.ValveProtectionAndBoostEvents : Prop :=
  ∀ (s : State) (at_ vb ma periods vbat : Nat) (n : Fin 8) (b : Fin 4),
    let s0 := s.atPhase at_
    let v := s.vl n
    let only := fun (t : State) => t = { s0 with valve := t.valve, flt := t.flt, freeCtr := t.freeCtr } ∧
      ∀ k, k ≠ n.val → slowed (s.vl k) (t.vl k)
    let bank := fun (t : State) => t = { s0 with valve := t.valve, flt := t.flt, freeCtr := t.freeCtr } ∧
      (∀ k, k / 2 ≠ b.val → t.vl k = s.vl k) ∧ (∀ k, k ≠ b.val → t.vb k = s.vb k)
    let off := fun (w : Valve) => (w.st = .release ∨ w.st = .off) ∧ w.todo = [] ∧ w.pend = none
    let sw := if s.vTarget ≤ vb then false else s.valve.switching || decide (vb + 50 ≤ s.vTarget)
    (v.st = .hold → 16 ≤ periods → v.phaseAt + periods * 1000000 / s.chopKhz n ≤ s0.now → 2 * ma < s.iHold n → calm s →
      Ends (.valveHoldOpen at_ ⟨n, periods, ma⟩) s (fun t => only t ∧ (t.vl n).st = .release ∧
        (t.vl n).open_ = true ∧ (t.src 0x25).total = satInc (s.src 0x25).total 255)) ∧
    (v.st ≠ .off → calm s → Ends (.valveOc at_ n) s (fun t => only t ∧ off (t.vl n) ∧ (t.vl n).ocLatch = true ∧
      n.val ∉ t.valve.queue ∧ (t.src 0x22).total = satInc (s.src 0x22).total 255)) ∧
    (hasBank s.var b = true → calm s → Ends (.valveBankOc at_ b) s (fun t => bank t ∧ (t.vb b).bankOc = true ∧
      (t.src 0x23).total = satInc (s.src 0x23).total 255 ∧
      ∀ k, k < 8 → k / 2 = b.val → off (t.vl k) ∧ (t.vl k).bankOc = true ∧ k ∉ t.valve.queue)) ∧
    (hasValve s.var n = true → calm s → Ends (.valveTherm at_ false n true) s (fun t => only t ∧ off (t.vl n) ∧
      (t.vl n).vtherm = true ∧ (t.src 0x24).total = satInc (s.src 0x24).total 255)) ∧
    (hasValve s.var n = true → Ends (.valveTherm at_ false n false) s (fun t =>
      t = s0.updValve n (fun v => { v with vtherm := false }))) ∧
    (hasBank s.var n = true → n.val = b.val → calm s → Ends (.valveTherm at_ true n true) s (fun t => bank t ∧
      (t.vb b).hsTherm = true ∧ (t.src 0x24).total = satInc (s.src 0x24).total 255 ∧
      ∀ k, k < 8 → k / 2 = b.val → off (t.vl k) ∧ t.vtherm k = true ∧ (t.vl k).vtherm = (s.vl k).vtherm)) ∧
    (hasBank s.var n = true → n.val = b.val → Ends (.valveTherm at_ true n false) s (fun t =>
      t = s0.updBank b (fun k => { k with hsTherm := false }))) ∧
    (s.valve.boost = .charge → s.readyLevel ≤ vb → Ends (.boostReady at_ vb) s (fun t =>
      t = { s0 with valve := { s.valve with boost := .ready, vbNow := vb, switching := sw } })) ∧
    (s.valve.boost = .ready → vb < s.readyLevel → Ends (.boostNotReadyDrop at_ vb) s (fun t =>
      t = { s0 with valve := { s.valve with boost := .charge, chargeAt := s0.now, vbNow := vb, switching := sw } })) ∧
    (s.valve.boost = .charge → s.valve.chargeAt + 50000000 ≤ s0.now → calm s →
      Ends (.boostChargeTimeout at_) s (fun t => counted { s0 with valve := { s.valve with
        boost := .fault, switching := false, cntFail := satInc s.valve.cntFail 255 } } t 0x28)) ∧
    (s.valve.boost = .discharge → vb * 10 ≤ vbat + 2000 → Ends (.boostDischargeDone at_ ⟨vb, vbat⟩) s (fun t =>
      t = { s0 with valve := { s.valve with boost := .off, vbNow := vb, switching := false } })) ∧
    (hasBoost s.var = true → 7200 < vb → s.valve.dump = false → calm s → Ends (.boostDumpOn at_ vb) s (fun t =>
      counted { s0 with valve := { (s.noteVboost vb).valve with dump := true, cntOv := satInc s.valve.cntOv 255 } } t 0x29)) ∧
    (vb < s.vTarget + 300 → Ends (.boostDumpOff at_ vb) s (fun t =>
      t = { s0 with valve := { (s.noteVboost vb).valve with dump := false } }))

/-- The switch inputs (R249-R255, R260, R484): WATCH_INPUTS is answered at a later racking, or in its own where the watch
completes there; a watch ends with the snapshot and TIMEOUT; N equal samples of what stands at a pin make the debounced
state, the first one only VALID, a later one the port's latches. `k` samples have been taken since the pin changed. -/
def Obligations.InputEvents : Prop :=
  ∀ (s : State) (c : HostCmd) (at_ since ref timeout reach dur cause : Nat) (n : Fin 64) (pin : Contact) (v : Bool) (q : Outst),
    let s0 := s.atPhase at_
    let p := s.si n
    let ref0 := (pw c 3).toNat + (pw c 4).toNat * 2 ^ 32
    let reach0 := s.portsOf c.node
    let cfg := s.reg (siCfg n)
    let k := s0.samplesTo n s0.now - s0.samplesTo n p.swept
    let run := if v = p.raw then p.run + k else k
    let only := fun (t : State) => t = { s0 with port := t.port, contact := vput s.contact n pin } ∧
      (∀ j, j ≠ n.val → t.si j = s.si j) ∧ (t.si n).raw = v ∧ (t.si n).run = run ∧ (t.si n).ref = p.ref
    let same := fun (t : State) => (t.si n).cmdLatch = p.cmdLatch ∧ (t.si n).regLatch = p.regLatch ∧ (t.si n).appLatch = p.appLatch
    (served s 0x33 c → (∀ o ∈ s.eng.outst, isWatch o = false) → s.eng.outst.length < 16 →
      (s.watchCause s.askedNow ref0 (pf c 2 0 16) s.clk.tickCount reach0 = none → Ends (.watchInputs c) s (fun t =>
        later s t 0x33 c (.watch ref0 (pf c 2 0 16) s.clk.tickCount reach0))) ∧
      (s.watchCause s.askedNow ref0 (pf c 2 0 16) s.clk.tickCount reach0 = some cause → s.eng.outst = [] →
        Ends (.watchInputs c) s (fun t =>
        answered { s with port := t.port, eng := { s.eng with nextTicket := s.eng.nextTicket + 1 } } t 0x33 c 0
          ((s.inputWords reach0).1 ++ [w32 cause])))) ∧
    (s.eng.outst = [q] → q.wait = .watch ref timeout since reach → timeout ≤ s.framesSince since →
      (∀ k, k < 64 → reach.testBit k = true → (s.si k).snapValid = true → (s.si k).snapState = ref.testBit k) →
      Ends (.watchTimeout at_) s (fun t =>
        answered { s0 with port := t.port, eng := { s.eng with outst := [] } } t q.op q.cmd 0
          ((s.inputWords reach).1 ++ [w32 (1 + place (s.framesSince since) 16 16)]) ∧
        ∀ k, k < 64 → (t.si k).state = (s.si k).state ∧ (t.si k).snapState = (s.si k).snapState)) ∧
    (s.inRun = true → s.pwr.woken = false → s.pwr.entry = none → s.siMode n ≠ 0 → s.supply.low = false →
      s0.now - 10 * dur - 1 ≤ p.swept → 0 < k → contactRaw pin cfg (bits cfg 3 3) p.raw = some v →
      (run < s.siNeed n → Ends (.debouncedStateChange at_ n ⟨pin, dur⟩) s (fun t => only t ∧ same t ∧
        (t.si n).state = p.state ∧ (t.si n).valid = p.valid)) ∧
      (s.siNeed n ≤ run → p.valid = false ∨ p.state = v → Ends (.debouncedStateChange at_ n ⟨pin, dur⟩) s (fun t => only t ∧
        same t ∧ (t.si n).state = v ∧ (t.si n).valid = true)) ∧
      (s.siNeed n ≤ run → p.valid = true → p.state ≠ v → Ends (.debouncedStateChange at_ n ⟨pin, dur⟩) s (fun t => only t ∧
        (t.si n).state = v ∧ (t.si n).valid = true ∧ (t.si n).cmdLatch = true ∧ (t.si n).cmdSeq = s0.evSeq ∧
        (t.si n).regLatch = true ∧ (t.si n).appLatch = 255)))

/-- The commanded state of every output is OFF and every input is without VALID (R275). -/
def Sys2Proof.Claims.cleared (s t : State) : Prop :=
  ∀ k, k < 16 → (t.fio k).drive = .off ∧ (t.fio k).sh = .off ∧ (t.fio k).valid = false ∧ (t.fio k).inp = false ∧
    (t.fio k).mode = (s.fio k).mode
/-- The island holds every output off. -/
def Sys2Proof.Claims.islandDark (t : State) : Prop := ∀ k, k < 16 → (t.fio k).iGate = false

/-- The field island (R270-R277): the link locks after 8 good cycles in each direction and is configured after 16 more;
good uplink cycles bring the mirror to what the island holds, four bad ones in a row or a loss clear it; a downlink
carries the commands; without one the island's outputs go off; the link retrains and restarts; and FV24 out of its range
holds the outputs off, until a racking after it is back. -/
def Obligations.IslandEvents : Prop :=
  ∀ (s : State) (at_ cause cycles dur v : Nat) (u : UplinkIn),
    let s0 := s.atPhase at_
    let f := s.field
    let only := fun (t : State) => t = { s0 with field := t.field, flt := t.flt }
    let inLink := f.st = .training ∨ f.st = .config ∨ f.st = .run
    let total := fun (t : State) (src : Nat) (one : Prop) [Decidable one] =>
      (t.src src).total = if one then satInc (s.src src).total 255 else (s.src src).total
    (f.st = .powering → Ends (.islandStart ⟨at_, cycles⟩) s (fun t => t = { s0 with field := t.field } ∧
      (cycles < 8 → t.field.st = .training ∧ t.field.locked = f.locked) ∧
      (8 ≤ cycles → t.field.st = .config ∧ t.field.locked = true) ∧
      (24 ≤ cycles → t.field.configured = true) ∧ t.field.ch = f.ch)) ∧
    (f.st = .run → f.locked = true → u.crcOk = true → u.disagree = false → calm s →
      Ends (.fieldUplinkCycle at_ u) s (fun t =>
        only t ∧ t.field.st = .run ∧ t.field.badRun = 0 ∧ t.field.cplRun = 0 ∧ t.field.fv24 = min 65535 u.fv24 ∧
        t.field.fv24State = t.field.isleFv24 ∧
        ∀ k, k < 16 → (t.fio k).gate = (t.fio k).iGate ∧ (t.fio k).ocLatch = (t.fio k).iOc ∧
          (t.fio k).ftherm = (t.fio k).iHot ∧ (t.fio k).rbMis = (t.fio k).iRb ∧ (t.fio k).valid = (t.fio k).iValid ∧
          (4 ≤ k → (t.fio k).inp = (t.fio k).iIn) ∧ (t.fio k).drive = (s.fio k).drive ∧
          (t.fio k).convI = (if u.conv = k then u.iout else (s.fio k).convI))) ∧
    (f.st = .run → f.locked = true → u.crcOk = false → f.badRun < 3 → Ends (.fieldUplinkCycle at_ u) s (fun t =>
      t = { s0 with field := t.field } ∧ t.field.st = .run ∧ t.field.crcUp = satInc f.crcUp 255 ∧
      t.field.badRun = f.badRun + 1 ∧ t.field.fv24 = f.fv24 ∧ t.field.fv24State = f.fv24State ∧
      ∀ k, k < 16 → (t.fio k).gate = (s.fio k).gate ∧ (t.fio k).valid = (s.fio k).valid ∧
        (t.fio k).ocLatch = (s.fio k).ocLatch ∧ (4 ≤ k → (t.fio k).inp = (s.fio k).inp))) ∧
    (inLink → u.crcOk = false → 3 ≤ f.badRun → calm s → Ends (.fieldUplinkCycle at_ u) s (fun t =>
      only t ∧ t.field.st = .lost ∧ t.field.lossCause = 1 ∧ t.field.locked = false ∧ cleared s t ∧ total t 0x33 True)) ∧
    (inLink → 1 ≤ cause → cause ≤ 4 → calm s → Ends (.fieldLinkLoss at_ cause) s (fun t => only t ∧ t.field.st = .lost ∧
      t.field.lossCause = cause ∧ t.field.losses = satInc f.losses 255 ∧ t.field.since = s0.now ∧ cleared s t ∧
      (cause = 4 → islandDark t) ∧ total t 0x33 True)) ∧
    (inLink → Ends (.fieldDownlinkCycle at_ false) s (fun t =>
      t = { s0 with field := { f with badDn := f.badDn + 1, crcDn := satInc f.crcDn 255, goodDn := 0 } })) ∧
    (f.st = .run → f.serving = true → Ends (.fieldDownlinkCycle at_ true) s (fun t => t = { s0 with field := t.field } ∧
      t.field.badDn = 0 ∧ t.field.dnOff = false ∧ ∀ k, k < 16 → (t.fio k).iGate = t.fioGate k ∧ (t.fio k).gate = (s.fio k).gate ∧
        (4 ≤ k → (s.fio k).drive = .on → (t.fio k).iDrive = .on) ∧ (4 ≤ k → (s.fio k).drive = .off → (t.fio k).iDrive = .off) ∧
        ((s.fio k).clrReq = true → (t.fio k).iOc = false ∧ (t.fio k).iRb = false))) ∧
    (4 ≤ f.badDn ∨ f.st = .lost → Ends (.islandDownlinkTimeout at_) s (fun t => t = { s0 with field := t.field } ∧
      islandDark t ∧ ∀ k, k < 16 → (t.fio k).drive = (s.fio k).drive)) ∧
    (s.fieldEn = true → f.st = .lost → f.since + 1000000 ≤ s0.now → Ends (.fieldRetrain ⟨at_, cycles⟩) s (fun t =>
      t = { s0 with field := t.field } ∧ (f.lossCause = 5 → t.field = f) ∧ (f.lossCause = 4 → t.field.st = .powering) ∧
      (f.lossCause ≠ 4 → f.lossCause ≠ 5 → islandDark t ∧
        t.field.st = (if 8 ≤ cycles then .config else .training) ∧
        t.field.relocks = (if 8 ≤ cycles then satInc f.relocks 255 else f.relocks)))) ∧
    (f.st ≠ .off → f.st ≠ .pwrFail → calm s → Ends (.fldPowerFault at_) s (fun t => only t ∧ cleared s t ∧ islandDark t ∧
      t.field.st = (if 3 ≤ f.pwrFaults then .pwrFail else .lost) ∧ t.field.lossCause = 5 ∧
      t.field.pwrFaults = f.pwrFaults + 1 ∧ total t 0x33 True ∧ total t 0x34 True)) ∧
    (s.fieldEn = true → f.st = .lost → f.lossCause = 5 → f.since + 100000000 ≤ s0.now →
      Ends (.fldPowerRestart at_) s (fun t => t = { s0 with field := { f with
        st := .powering, since := s0.now, relock := true, pwrRetries := min 3 (f.pwrRetries + 1) } })) ∧
    (f.st = .run → f.serving = true → calm s → Ends (.fv24StateChange at_ v dur) s (fun t => only t ∧
      t.field.fv24 = min 65535 v ∧
      (v < 1500 → 3200 ≤ dur → t.field.fv24State = 2 ∧ islandDark t ∧ (∀ k, k < 16 → (t.fio k).valid = false ∧
        (t.fio k).gate = false) ∧ total t 0x2D (f.fv24State ≠ 2)) ∧
      (3300 < v → 3200 ≤ dur → f.iLost = false → t.field.fv24State = 3 ∧ islandDark t ∧ total t 0x2E (f.fv24State ≠ 3)) ∧
      (1500 ≤ v → v < 1800 → 3200 ≤ dur → f.iLost = false → f.iOver = false → t.field.fv24State = 1 ∧
        total t 0x2C (f.fv24State = 0)) ∧
      (1850 ≤ v → v ≤ 3200 → 1000000 ≤ dur → f.warnOk = none → f.lostOk = none → f.overOk = none → 10 * dur ≤ s0.now →
        t.field.fv24State = 0 ∧ (f.iLost = true → t.field.relDue = true ∧ islandDark t))))

/-- The mirror shows what the island holds, as after a good uplink cycle (R274). -/
def Sys2Proof.Claims.mirrored (s : State) : Prop :=
  s.field.st = .run ∧ s.field.serving = true ∧ s.field.fv24State = s.field.isleFv24 ∧ s.field.iLost = false ∧
  ∀ k, k < 16 → let c := s.fio k
    c.gate = c.iGate ∧ c.ocLatch = c.iOc ∧ c.ftherm = c.iHot ∧ c.rbMis = c.iRb ∧ c.valid = c.iValid ∧ c.inp = c.iIn ∧
    (c.iIn = true → c.iValid = true)

/-- The channels of the field island (R278-R284), in the mirror: a level that the comparator has held for FILT is accepted,
the first time only as VALID, then with latches and edge record; LIM_TIME in current limit latches the output off; its
detector holds it off; readback differs from the gate for its time, or agrees for 1 ms; and a pulse ends. -/
def Obligations.FieldChannelEvents : Prop :=
  ∀ (s : State) (at_ a w mv dur : Nat) (n : Fin 16) (l : Bool),
    let s0 := s.atPhase at_
    let c := s.fio n
    let filt := if s.cfg (fioCfg n) 4 8 = 0 then 1000 else s.cfg (fioCfg n) 4 8 * 10000
    let v := fioLevel (s.cfgBit (fioCfg n) 2) mv c.lvl
    let from_ := if v = c.lvl then c.lvlFrom else max c.lvlFrom (s0.now - 10 * dur)
    let rbFrom := max from_ (c.gateAt + 200000)
    let rest := fun (t : State) => t = { s0 with field := t.field, flt := t.flt } ∧
      (∀ k, k ≠ n.val → k < 16 → (t.fio k).drive = (s.fio k).drive ∧ (t.fio k).inp = (s.fio k).inp ∧
        (t.fio k).cmdLatch = (s.fio k).cmdLatch)
    let once := fun (t : State) (src : Nat) => (t.src src).total = satInc (s.src src).total 255 ∧ ∀ i, i ≠ src → t.src i = s.src i
    (mirrored s → calm s →
      (c.mode % 2 = 1 → from_ + filt ≤ s0.now →
        (c.iValid = false → Ends (.fieldInputEdge at_ n ⟨mv, dur⟩) s (fun t => rest t ∧ (t.fio n).valid = true ∧
          (t.fio n).inp = v ∧ (t.fio n).cmdLatch = c.cmdLatch ∧ t.field.edge = s.field.edge)) ∧
        (c.iValid = true → c.iIn ≠ v → Ends (.fieldInputEdge at_ n ⟨mv, dur⟩) s (fun t => rest t ∧ (t.fio n).valid = true ∧
          (t.fio n).inp = v ∧ (t.fio n).cmdLatch = true ∧ (t.fio n).cmdSeq = s0.evSeq ∧ (t.fio n).regLatch = true ∧
          (t.fio n).appLatch = 255 ∧
          ∀ k, k < 4 → vget t.field.edge k = if k = n.val then
            { t := (s0.now - 900 - filt) % 2 ^ 32, dir := v, count := satInc (vget s.field.edge k).count 255 }
            else vget s.field.edge k))) ∧
      (c.iGate = true → c.iOc = false → s.cfg (fioCfg n) 16 8 ≠ 0 → c.limFrom = none →
        s0.now - 10 * dur + s.cfg (fioCfg n) 16 8 * 1000000 ≤ s0.now → Ends (.fioOcLatch at_ ⟨n, dur⟩) s (fun t => rest t ∧
          once t 0x2F ∧ (t.fio n).ocLatch = true ∧ (t.fio n).gate = false)) ∧
      (c.iHot = false → Ends (.fioTherm at_ n) s (fun t => rest t ∧ once t 0x30 ∧ (t.fio n).ftherm = true ∧
        (t.fio n).gate = false)) ∧
      (c.iHot = true → Ends (.fioThermRelease at_ n) s (fun t => rest t ∧ t.flt = s.flt ∧ (t.fio n).ftherm = false ∧
        (t.fio n).relDue = true)) ∧
      (c.mode = 3 → c.iRb = false → v ≠ c.iGate → rbFrom + (s.cfg (fioCfg n) 29 3 + 1) * 100000 ≤ s0.now →
        Ends (.fioReadbackMismatch at_ n mv dur) s (fun t => rest t ∧ once t 0x32 ∧ (t.fio n).rbMis = true ∧
          (t.fio n).rbDir = !c.iGate ∧ (t.fio n).gate = c.gate)) ∧
      (c.mode = 3 → v = c.iGate → rbFrom + 1000000 ≤ s0.now → Ends (.fioReadbackMismatch at_ n mv dur) s (fun t => rest t ∧
        t.flt = s.flt ∧ (t.fio n).rbMis = false ∧ (t.fio n).gate = c.gate))) ∧
    (c.iDrive = .pulse l a w → a + w * 1000 ≤ s0.now → Ends (.fieldPulseEnd at_ n) s (fun t =>
      let d : FDrive := if l then .off else .on
      t = { s0 with field := t.field } ∧ (t.fio n).iDrive = d ∧ (t.fio n).drive = (if c.cmdNew then c.drive else d) ∧
      (t.fio n).sh = (if c.shNew || c.cmdNew then c.sh else d) ∧
      ∀ k, k ≠ n.val → (t.fio k).drive = (s.fio k).drive ∧ (t.fio k).sh = (s.fio k).sh))

/-- The CAN controllers (R294-R307): the self-test and the integration bring a controller up, bus-off recovery back;
frames that are no ring frames reach the object bound to their identifier, its incoming buffer where it is locked, the
log, or the discard count; a sent frame leaves the queue with its event, a failed one stays unless it has one attempt;
error counts move the state, and 256 takes the controller off the bus with its queue aborted. -/
def Obligations.CanEvents : Prop :=
  ∀ (s : State) (at_ rec_ tec lec sof o i : Nat) (k : Fin 4) (fr : CanFrame) (x : CanTx),
    let s0 := s.atPhase at_
    let c := s.canc k
    let only := fun (t : State) => t = { s0 with can := t.can, flt := t.flt } ∧ ∀ j, j ≠ k.val → t.canc j = s.canc j
    let up := (c.st = .active ∨ c.st = .passive) ∧ c.trxSleep = false ∧ mild s
    let offers := fun (x : CanTx) => s.canMode k = 0 ∧ s.supply.low = false ∧
      canOffer c (s.cfgBit (canBase k) 5) (s0.now - sof) = some x
    let counts := fun (n : Can) (te re : Nat) => n.tec = te ∧ n.rec_ = min 255 re ∧
      n.st = (if 128 ≤ te ∨ 128 ≤ re then .passive else .active)
    let buf := canBufOf fr
    (c.st = .selftest → hasCan s.var k = true →
      Ends (.canSelftestDone at_ k [] true) s (fun t => t = s0.updCan k (fun c => { c with st := .integrating })) ∧
      (c.filtSpare = true → calm s → Ends (.canSelftestDone at_ k [] false) s (fun t =>
        counted (s0.updCan k (fun c => { c with st := .failed })) t 0x36))) ∧
    (c.st = .integrating → Ends (.canIntegrated at_ k) s (fun t =>
      t = s0.updCan k (fun c => { c with st := .active }))) ∧
    (c.st = .busOff → c.recovering = true → Ends (.canBusOffRecovered at_ k) s (fun t =>
      t = s0.updCan k (fun c => { c with st := .active, tec := 0, rec_ := 0, recovering := false }))) ∧
    (k.val < 2 → hasCan s.var k = true → s.running = true →
      Ends (.canTxdTimeout at_ k false) s (fun t => t = s0.updCan k (fun c => { c with txdTimeout := false })) ∧
      (calm s → c.txdTimeout = false → Ends (.canTxdTimeout at_ k true) s (fun t =>
        counted (s0.updCan k (fun c => { c with txdTimeout := true })) t 0x35))) ∧
    (up → c.tec < 256 → Ends (.canReceiveError at_ k lec rec_) s (fun t => only t ∧
      (t.canc k).lec = lec % 8 ∧ counts (t.canc k) c.tec rec_ ∧ (t.canc k).obj = c.obj ∧ (t.canc k).txq = c.txq)) ∧
    (up → c.tec < 256 → (fr.fdf = true → s.canFd k = true) →
      (fr.remote = true → Ends (.canFrameReceived at_ k fr rec_) s (fun t => only t ∧ (t.canc k).lec = 0 ∧
        counts (t.canc k) c.tec rec_ ∧ (t.canc k).remote = satInc c.remote 255 ∧ (t.canc k).obj = c.obj)) ∧
      (fr.remote = false → s.ringFrame k fr = none →
          s.boundObj k fr = some o → (canObj c o).fail = false →
        Ends (.canFrameReceived at_ k fr rec_) s (fun t => only t ∧ (t.canc k).lec = 0 ∧
          counts (t.canc k) c.tec rec_ ∧
          (∀ j, j ≠ o → canObj (t.canc k) j = canObj c j) ∧ (t.canc k).log = c.log ∧
          let n := ((canObj c o).frameCnt + 1) % 65536
          let b := buf n (s0.sofStamp fr.sinceSof)
          canObj (t.canc k) o = if (canObj c o).lock.isSome
            then { canObj c o with frameCnt := n, inc := some { b with lost := (canObj c o).inc.any (·.new) } }
            else { canObj c o with frameCnt := n, cur := { b with lost := (canObj c o).cur.new } })) ∧
      (fr.remote = false → s.ringFrame k fr = none →
          s.boundObj k fr = none → s.matchFilter k fr = some i → c.log.length < 32 →
        Ends (.canFrameReceived at_ k fr rec_) s (fun t =>
          t = { s0 with can := t.can, flt := t.flt, freeCtr := s.freeCtr + 1 } ∧ (t.canc k).obj = c.obj ∧
          ∃ n, (t.canc k).log = c.log ++ [(i, buf n (s0.sofStamp fr.sinceSof))])) ∧
      (fr.remote = false → s.ringFrame k fr = none →
          s.boundObj k fr = none → s.matchFilter k fr = none →
        Ends (.canFrameReceived at_ k fr rec_) s (fun t => only t ∧ (t.canc k).obj = c.obj ∧
          (t.canc k).log = c.log ∧ (t.canc k).rxDiscard = satInc c.rxDiscard 255))) ∧
    (up → tec < 256 → offers x →
      Ends (.canFrameTransmitted at_ k none tec sof) s (fun t => only t ∧ (t.canc k).lec = 0 ∧
        counts (t.canc k) tec c.rec_ ∧ (t.canc k).txq = c.txq.erase x ∧ (t.canc k).obj = c.obj ∧
        (c.events.length < 16 → (t.canc k).events = c.events ++
          [(w32 (place x.tag 0 8), w32 (s0.sofStamp sof))])) ∧
      Ends (.canFrameTransmitted at_ k (some lec) tec sof) s (fun t => only t ∧
        (t.canc k).lec = lec % 8 ∧ counts (t.canc k) tec c.rec_ ∧ (t.canc k).obj = c.obj ∧
        (x.single = true → (t.canc k).txq = c.txq.erase x ∧ (c.events.length < 16 → (t.canc k).events = c.events ++
          [(w32 (place x.tag 0 8 + place 3 8 2), w32 (s0.sofStamp sof))])) ∧
        (x.single = false → (t.canc k).events = c.events ∧ (t.canc k).txq =
          c.txq.map (fun y => if y == x then { x with sof := s0.sofStamp sof } else y)))) ∧
    (up → calm s → 256 ≤ tec → s.nmCtrl ≠ k.val → offers x →
      Ends (.canFrameTransmitted at_ k (some lec) tec sof) s (fun t => only t ∧ (t.canc k).st = .busOff ∧
        (t.canc k).tec = 256 ∧ (t.canc k).rec_ = min 255 c.rec_ ∧ (t.canc k).recovering = s.cfgBit (canBase k) 4 ∧
        (t.canc k).busoffCnt = satInc c.busoffCnt 255 ∧ (t.canc k).txq = c.txq.filter (fun y => !y.entered) ∧
        (t.src 0x38).total = satInc (s.src 0x38).total 255))

/-- The locks of CAN objects (R298-R302, R439): the read of word 0 takes the lock, that of the last word by the owner
releases it and brings the incoming buffer up, another master's reads take nothing, and the lease ends a lock. -/
def Obligations.CanObjectLocks : Prop :=
  ∀ (s : State) (at_ since w : Nat) (k : Fin 4) (o : Fin 128) (m : Master),
    let s0 := s.atPhase at_
    let a := canBase k + 0x1000 + 0x50 * o.val
    let b := canObj (s.canc k) o
    let only := fun (t : State) =>
      (∀ j, j ≠ k.val → t.canc j = s.canc j) ∧ ∀ j, j ≠ o.val → canObj (t.canc k) j = canObj (s.canc k) j
    let free := fun (t : State) => (canObj (t.canc k) o).lock = none ∧ (canObj (t.canc k) o).inc = none ∧
      (canObj (t.canc k) o).frameCnt = b.frameCnt
    (opens s0 m false a → b.fail = false → s.declaredMaster m.id = false → (∀ l, b.lock = some l → l.1 = m.id) →
      Ends (.canObjWord0Read at_ k o m .clean) s (fun t => t = { s0 with can := t.can, busOut := t.busOut, busEnd := .ok } ∧ only t ∧
        t.busOut = canWord b.cur o false false 0 ∧ canObj (t.canc k) o = { b with lock := some (m.id, s0.now) })) ∧
    (opens s0 m false a → b.fail = false → s.declaredMaster m.id = false → (∃ l, b.lock = some l ∧ l.1 ≠ m.id) →
      Ends (.canObjWord0Read at_ k o m .clean) s (fun t =>
        t = { s0 with busOut := canWord b.cur o false true 0, busEnd := .ok })) ∧
    (opens s0 m false (a + 4 * canLast b.cur) → b.fail = false → s.declaredMaster m.id = false →
      b.lock = some (m.id, w) → Ends (.canObjLastWordRead at_ k o m) s (fun t =>
        t = { s0 with can := t.can, busOut := t.busOut, busEnd := .ok } ∧ only t ∧ free t ∧
        t.busOut = canWord b.cur o false false (canLast b.cur) ∧
        (canObj (t.canc k) o).cur = b.inc.getD { b.cur with new := false, lost := false })) ∧
    (b.lock = some (m.id, since) → since + s.lockNs k ≤ s0.now → calm s →
      Ends (.canLockLeaseExpiry at_ k o) s (fun t => t = { s0 with can := t.can, flt := t.flt } ∧ only t ∧ free t ∧
        (t.canc k).lockExpire = satInc (s.canc k).lockExpire 255 ∧
        (t.src 0x39).total = satInc (s.src 0x39).total 255 ∧
        (b.inc = none → (canObj (t.canc k) o).cur = b.cur)))

/-- The LIN channels (R313-R318, R359): a slot ends and the header of the next is sent; a header latches its publish
buffer; a frame or its error is counted and recorded, and the go-to-sleep frame puts a group responder to sleep; the
reads of a receive buffer take and release its lock, and the lease ends it; a short circuit and its retry; the sleep of a
group responder, and the channel is idle again after a wake pulse. That a responder's break is taken to have begun 34 bit
times before is the model's choice (log 111). -/
def Obligations.LinEvents : Prop :=
  ∀ (s : State) (at_ since w : Nat) (c : Fin 6) (id : Fin 64) (pid : Fin 256) (data : List Byte) (sum : Option Byte)
    (bitErr framing : Bool) (m : Master) (rec_ : Bool),
    let s0 := s.atPhase at_
    let l := s.linc c
    let b := linRx l id
    let only := fun (t : State) => t = { s0 with lin := t.lin } ∧ ∀ j, j ≠ c.val → t.linc j = s.linc j
    let told := fun (t : State) => t = { s0 with lin := t.lin, flt := t.flt } ∧ ∀ j, j ≠ c.val → t.linc j = s.linc j
    let read := fun (t : State) (v : Word) => t = { s0 with lin := t.lin, busOut := v, busEnd := .ok } ∧
      ∀ j, j ≠ c.val → t.linc j = s.linc j
    let upd := fun (t : State) (f : Lin → Lin) => t = s0.updLin c f
    let live := l.st = .idle ∨ l.st = .running
    let taken := s.linDir c id ≠ 0
    let len := s.linLen c id
    let baud := s.cfg (linBase c) 8 16
    let slotEnd := l.slotAt + (s.linSlotDef c l.table l.slot).2 * 500000
    let wrap := s.linTableLen c l.table ≤ l.slot + 1
    let sw := l.switch = 1 ∨ (l.switch = 2 ∧ wrap)
    let a := linBase c + 0x400 + 0x10 * id.val
    let recorded := fun (t : State) (err : Nat) (data : List Byte) =>
      (∀ j, j ≠ id.val → linRx (t.linc c) j = linRx l j) ∧
      let into := fun (r : LinRx) => r.len = len ∧ r.err = err ∧ r.new = true ∧ r.t = (if err = 1 then l.beganAt + linMaxNs len baud else s0.now) % 2 ^ 32 ∧
        [r.w0, r.w1] = (if err = 0 then padTo 2 (packBytes (data.take len)) else [0, 0])
      (b.lock = none → into (linRx (t.linc c) id).cur ∧ (linRx (t.linc c) id).cur.lost = b.cur.new) ∧
      (b.lock ≠ none → (linRx (t.linc c) id).cur = b.cur ∧ ∃ r, (linRx (t.linc c) id).inc = some r ∧ into r ∧
        r.lost = b.inc.any (·.new))
    let err := if bitErr then 4 else if framing then 5 else if s.linDir c id = 1 then 0
      else if data.length < len ∨ sum = none then 2
      else if sum ≠ some (linSum id (s.linEnhanced c id) data) then 3 else 0
    (l.st = .running → slotEnd ≤ s0.now → l.switch ≠ 3 → Ends (.linSlotStart at_ c) s (fun t => only t ∧
      (t.linc c).st = .running ∧ (t.linc c).slotAt = slotEnd ∧
      (t.linc c).table = (if sw then l.swTable else l.table) ∧
      (t.linc c).slot = (if sw then l.swSlot else if wrap then 0 else l.slot + 1) ∧
      let i := (s.linSlotDef c (t.linc c).table (t.linc c).slot).1
      (s.supply.low = true → (t.linc c).frameId = none) ∧
      (s.supply.low = false → (t.linc c).frameId = some i ∧ (t.linc c).latched = linPub l i ∧
        (s.linDir c i = 1 → (linPub l i).valid = true → (linPub l i).oneShot = true →
          (linPub (t.linc c) i).valid = false)))) ∧
    (l.st = .running → slotEnd ≤ s0.now → l.switch = 3 → Ends (.linSlotStart at_ c) s (fun t => only t ∧
      (t.linc c).st = .idle ∧ (t.linc c).switch = 0 ∧
      (t.linc c).frameId = (if l.goToSleep then some 0x3C else none))) ∧
    (l.st = .idle → s.linCmd c = false →
      (rec_ = false ∨ linPid (pid.val % 64) ≠ pid.val → Ends (.linHeaderReceived at_ c pid rec_) s (fun t =>
        upd t (fun l => { l with syncParity := satInc l.syncParity 255, frameId := none, activeAt := s0.now }))) ∧
      (pid.val = linPid id → pid.val % 64 = id.val →
        (s.linDir c id = 1 → (linPub l id).valid = false → Ends (.linHeaderReceived at_ c pid true) s (fun t =>
          upd t (fun l => { l with frameId := none, activeAt := s0.now }))) ∧
        (s.linDir c id ≠ 1 ∨ (linPub l id).valid = true → Ends (.linHeaderReceived at_ c pid true) s (fun t => only t ∧
          (t.linc c).frameId = some id.val ∧ (t.linc c).latched = linPub l id ∧ (t.linc c).st = .idle)))) ∧
    (live → l.frameId = some id.val →
      Ends (.linFrameReceived at_ c data sum ⟨bitErr, framing⟩) s (fun t => only t ∧ (t.linc c).frameId = none ∧
        (t.linc c).activeAt = s0.now ∧
        (t.linc c).checksum = (if taken ∧ err = 3 then satInc l.checksum 255 else l.checksum) ∧
        (t.linc c).bitErr = (if taken ∧ (err = 4 ∨ err = 5) then satInc l.bitErr 255 else l.bitErr) ∧
        (t.linc c).noResp = (if taken ∧ err = 2 then satInc l.noResp 255 else l.noResp) ∧
        (t.linc c).st = (if err = 0 ∧ id = 0x3C ∧ data = [0x00, 0xFF, 0xFF, 0xFF, 0xFF, 0xFF, 0xFF, 0xFF] ∧
          s.linCmd c = false ∧ s.linGroup c = true then .sleep else l.st) ∧
        (s.linDir c id ≠ 2 → (t.linc c).rx = l.rx) ∧ (s.linDir c id = 2 → recorded t err data))) ∧
    (live → l.frameId = some id.val → s.linDir c id = 2 → l.beganAt + linMaxNs len baud ≤ s0.now → calm s →
      Ends (.linNoResponse at_ c) s (fun t => told t ∧ (t.linc c).noResp = satInc l.noResp 255 ∧
        (t.linc c).frameId = none ∧ recorded t 1 [] ∧ (t.src 0x3F).total = satInc (s.src 0x3F).total 255)) ∧
    (opens s0 m false a → s.declaredMaster m.id = false → (∀ k, b.lock = some k → k.1 = m.id) →
      Ends (.linRxbufWord0Read at_ c id m) s (fun t => read t (linWord b.cur id 0) ∧
        linRx (t.linc c) id = { b with lock := some (m.id, s0.now) })) ∧
    (opens s0 m false (a + 12) → s.declaredMaster m.id = false → b.lock = some (m.id, w) →
      Ends (.linRxbufLastWordRead at_ c id m) s (fun t => read t (linWord b.cur id 3) ∧
        (linRx (t.linc c) id).lock = none ∧
        (linRx (t.linc c) id).cur = b.inc.getD { b.cur with new := false, lost := false })) ∧
    (b.lock = some (m.id, since) → since + s.lockNs 0 ≤ s0.now → calm s →
      Ends (.linBufferLeaseExpiry at_ c id) s (fun t => told t ∧ (linRx (t.linc c) id).lock = none ∧
        (b.inc = none → (linRx (t.linc c) id).cur = b.cur) ∧ (t.src 0x3E).total = satInc (s.src 0x3E).total 255)) ∧
    (live ∨ l.st = .sleep → calm s → Ends (.linShort at_ c) s (fun t => counted (s0.updLin c (fun l => { l with
      st := .fault, prev := l.st, since := s0.now, frameId := none, waking := false })) t 0x3D)) ∧
    (l.st = .fault → l.since + 100000000 ≤ s0.now → Ends (.linFaultRetry at_ c rec_) s (fun t => upd t (fun l => { l with
      since := l.since + 100000000, st := if rec_ then l.prev else .fault }))) ∧
    (l.st = .idle → s.linCmd c = false → s.linGroup c = true → l.activeAt + 4000000000 ≤ s0.now →
      Ends (.linBusInactivity at_ c) s (fun t => upd t (fun l => { l with st := .sleep, frameId := none }))) ∧
    (l.st = .sleep → l.waking = true → l.since + 150000000 ≤ s0.now → Ends (.linIdleAfterWake at_ c) s (fun t =>
      only t ∧ (t.linc c).st = .idle ∧ (t.linc c).waking = false ∧ (t.linc c).activeAt = s0.now ∧ (t.linc c).table = 0))

/-- The T1S ports and the time bases (R324-R327, R334-R337): a started port runs, beacons keep a follower's PLCA and
are counted by a coordinator, a good frame enters the receive ring with its stamps, a frame sent in an opportunity of the port or without PLCA leaves the queue,
with its stamp where it asks for one, as one aborted at its 16th collision does, and a base without Sync is in holdover.
That a frame begins 64 bit times before its delimiter is the model's choice (log 112). -/
def Obligations.T1sEvents : Prop :=
  ∀ (s : State) (at_ since coll : Nat) (more : Bool) (p : Fin 2) (i : Fin 4) (bytes : List Byte) (f : T1sTx),
    let s0 := s.atPhase at_
    let q := s.ts p
    let upd := fun (t : State) (g : T1s → T1s) => t = s0.updT1s p g
    let began := s0.now - since - 6400
    let slot := s.t1sCfg p 16 8 * 100
    let opening := if s.coordinator p = true
      then (if q.sentAt = 0 then 0 else q.sentAt + 2000 + (s.t1sCfg p 12 4 - 1) * slot)
      else q.beaconAt + s.t1sCfg p 8 3 * slot
    (q.st = .starting → Ends (.t1sPortStarted at_ p) s (fun t => upd t (fun q => { q with
      st := .run, plcaOk := s.coordinator p }))) ∧
    (q.st = .run → s.follower p = true → Ends (.plcaBeaconReceived at_ p) s (fun t => upd t (fun q => { q with
      plcaOk := true, beaconAt := s0.now }))) ∧
    (q.st = .run → s.coordinator p = true → calm s → Ends (.plcaBeaconReceived at_ p) s (fun t =>
      counted (s0.updT1s p (fun q => { q with bcnDup := satInc q.bcnDup 255 })) t 0x40)) ∧
    (q.st = .run → s.follower p = true → q.plcaOk = true → q.beaconAt + 400000 ≤ s0.now → calm s →
      Ends (.plcaBeaconTimeout at_ p) s (fun t =>
        counted (s0.updT1s p (fun q => { q with plcaOk := false, plcaLoss := satInc q.plcaLoss 255 })) t 0x41)) ∧
    (q.st = .run → frameLenOk bytes = true → Ends (.t1sFrameReceived at_ p bytes false since) s (fun t =>
      upd t (fun q => { q with fcsErr := satInc q.fcsErr 255 }))) ∧
    (q.st = .run → frameLenOk bytes = true → s.destOk p bytes = true → isPtp bytes = false → q.ring.length < 16 →
      ringBytes q.ring + bytes.length ≤ 8192 → Ends (.t1sFrameReceived at_ p bytes true since) s (fun t =>
        upd t (fun q => { q with ring := q.ring ++ [{
          len := bytes.length, base := 0, tbi := 0, bytes := bytes
          tb0 := ((((s0.now - since : Nat) : Int) - if s.t1sCfg p 2 1 = 1 then 760 else 0) % 2 ^ 32).toNat }] }))) ∧
    (q.st = .run → s.supply.low = false → q.txq.find? (·.entered) = some f →
      (s.plcaOn p = false → f.stamp = false →
        Ends (.t1sFrameSent at_ p ⟨true, more⟩ coll since) s (fun t => upd t (fun q => { q with
          txq := q.txq.erase f, coll := satAdd q.coll coll 255, sentAt := s0.now, burst := 0 })) ∧
        Ends (.t1sFrameSent at_ p ⟨false, more⟩ coll since) s (fun t => upd t (fun q => { q with
          txq := q.txq.erase f, coll := satAdd q.coll coll 255, burst := 0, txAbort := satInc q.txAbort 255 }))) ∧
      (s.plcaOn p = true → f.stamp = false → began ≥ opening →
        Ends (.t1sFrameSent at_ p ⟨true, false⟩ coll since) s (fun t => upd t (fun q => { q with
          txq := q.txq.erase f, sentAt := s0.now, burst := 0 }))) ∧
      (s.plcaOn p = true → f.stamp = false → q.sentAt ≠ 0 → q.burst < bits (s.reg (t1sBase p + 4)) 0 8 →
        began ≤ q.sentAt + s.cfg (t1sBase p + 4) 8 8 * 100 →
        Ends (.t1sFrameSent at_ p ⟨true, true⟩ coll since) s (fun t => upd t (fun q => { q with
          txq := q.txq.erase f, sentAt := s0.now, burst := q.burst + 1 }))) ∧
      (s.plcaOn p = false → f.stamp = true → isPtp f.bytes = false → q.tsq.length < 8 →
        Ends (.t1sFrameSent at_ p ⟨true, more⟩ coll since) s (fun t => t = { s0 with t1s := t.t1s } ∧
          (∀ j, j < 2 → j ≠ p.val → t.ts j = s.ts j) ∧ (t.ts p).txq = q.txq.erase f ∧
          (t.ts p).tsq = q.tsq ++ [(tsqWord0 f.frameId p 0 0, BitVec.ofInt 32 (((s0.now - since : Nat) : Int) +
            if s.t1sCfg p 2 1 = 1 then 560 else 0), 0)]))) ∧
    (i ≠ 0 → (s.tbase i).sync = .tracking → s.cfg (tbCfg i) 16 12 ≠ 0 →
      (s.tbase i).ageFrom + s.cfg (tbCfg i) 16 12 * 1000000 ≤ s0.now → calm s → Ends (.syncTimeout at_ i) s (fun t =>
        counted (s0.updTb i (fun b => { b with sync := .holdover, losses := satInc b.losses 255 })) t 0x44))

/-- NETMGR (R350-R362): ring frames update the tables and pass the token, a common sleep leads to WAIT_SLEEP and
BUS_SLEEP, a wake cause leads back through START and is recorded, and the fail-safe puts the group to sleep. -/
def Obligations.NetworkManagementEvents : Prop :=
  ∀ (s : State) (at_ cause src d x rec_ tec sof : Nat) (c : Fin 6) (node : Fin 32) (next : Fin 256) (ty : RingType)
    (si : Bool) (f : RingTx) (r : List RingTx),
    let s0 := s.atPhase at_
    let a := node.val
    let dest := next.val
    let n := s.nm
    let own := s.nmAddr
    let k := s.nmCtrl
    let up := s.onBus k = true ∧ mild s
    let heard := fun (t : State) => t = { s0 with nm := t.nm, can := t.can, flt := t.flt, freeCtr := t.freeCtr }
    let sends := up ∧ s.canMode k = 0 ∧ s.supply.low = false ∧ tec < 256
    let sent := fun (t : State) => (t.canc k).tec = tec ∧ (t.canc k).lec = 0 ∧ ∀ j, j ≠ k → t.canc j = s.canc j
    let inRing := n.st = .start ∨ n.st = .awake ∨ n.st = .consent
    let woken := fun (t : State) (cause src : Nat) =>
      t.nm.st = (if n.st = .consent then .awake else .start) ∧ t.nm.req = false ∧ t.nm.wakes = satInc n.wakes 255 ∧
      t.nm.wakeTime = s0.now % 2 ^ 32 ∧
      t.nm.wakeRec = w32 (place cause 0 4 + place (nmCode n.st) 8 3 + place (b2n n.committed) 11 1 + place src 16 5) ∧
      (n.st = .consent → t.nm.toSend = n.toSend ++ [⟨.withdraw, 0xFF, false, false⟩])
    let asleep := fun (t : State) => t.nm.st = .busSleep ∧ t.nm.toSend = [] ∧ t.nm.tokenDue = none ∧
      ∀ k, k < 6 → hasLin s.var k = true → s.linGroup k = true → (s.linc k).st ≠ .disabled → (s.linc k).st ≠ .halted →
        (t.linc k).st = .sleep
    let sleeper := n.st = .consent ∨ n.st = .waitSleep ∨ n.st = .busSleep
    (up → (s.canc k).tec < 256 → n.st = .awake →
      ty = .ring ∨ ty = .alive → a ≠ own → Ends (.ringFrameReceived at_ node next ty ⟨si, false⟩ ⟨rec_, sof⟩) s (fun t => heard t ∧ t.nm.st = .awake ∧
        (∀ k, k < 32 → t.nm.present.testBit k = ((n.present.testBit k || k == a) &&
          (k == own || !ringBetween a dest k))) ∧
        t.nm.si.testBit a = si ∧
        (dest = own → n.tokenDue = none →
          t.nm.tokenDue = some (s0.now + s.tTyp) ∧ t.nm.lastToken = s0.now))) ∧
    (up → (s.canc k).tec < 256 → n.st = .consent → a ≠ own →
      Ends (.ringFrameReceived at_ node next .ring ⟨true, true⟩ ⟨rec_, sof⟩) s (fun t => heard { t with lin := s.lin } ∧ t.nm.st = .waitSleep ∧
        t.nm.committed = true ∧ t.nm.wbsFrom = s0.now ∧ t.nm.tokenDue = none)) ∧
    (sends → n.toSend = f :: r → f.ty = .ring ∨ f.ty = .alive →
      (f.sa = false → Ends (.ringFrameSent at_ ⟨tec, sof⟩) s (fun t => sent t ∧ t = { s0 with
        can := t.can, flt := t.flt, nm := { n with toSend := r, lastToken := s0.now, passedTo := some (f.dest, s0.now) } })) ∧
      (f.sa = true → n.st = .consent → Ends (.ringFrameSent at_ ⟨tec, sof⟩) s (fun t => sent t ∧
        t = { s0 with can := t.can, flt := t.flt, lin := t.lin, nm := t.nm } ∧ t.nm.st = .waitSleep ∧
        t.nm.committed = true ∧ t.nm.closer = true ∧ t.nm.wbsFrom = s0.now))) ∧
    (sends → n.toSend = f :: r → f.ty = .wake ∨ f.ty = .withdraw → Ends (.ringFrameSent at_ ⟨tec, sof⟩) s (fun t =>
      sent t ∧ t = { s0 with can := t.can, flt := t.flt, nm := { n with toSend := r, lastToken := s0.now } })) ∧
    (inRing → n.tokenDue = some x → x ≤ s0.now → s.ringUp = true → Ends (.tokenHoldElapsed at_) s (fun t =>
      t = { s0 with nm := { n with tokenDue := none, toSend := n.toSend ++
        [⟨.ring, s.successor, decide (n.st = .consent), decide (n.st = .consent) && s.allConsent⟩] } })) ∧
    (inRing → n.passedTo = some (d, x) → d ≠ own → x + s.tMax ≤ s0.now → mild s → Ends (.successorTimeout at_) s (fun t =>
      t = { s0 with nm := t.nm, flt := t.flt } ∧ t.nm.skips = satInc n.skips 255 ∧ t.nm.passedTo = none ∧
      t.nm.tokenDue = none ∧ ∀ k, k < 32 → t.nm.present.testBit k = (n.present.testBit k && k != d))) ∧
    (inRing → n.tokenDue = none → n.lastToken + s.tMax ≤ s0.now → calm s → Ends (.tokenTimeout at_) s (fun t =>
      t = { s0 with nm := t.nm, flt := t.flt } ∧ t.nm.tokenTmo = satInc n.tokenTmo 255 ∧ t.nm.lastToken = s0.now ∧
      t.nm.st = (if n.st = .start then (if n.req then .consent else .awake) else n.st) ∧
      (t.src 0x47).total = satInc (s.src 0x47).total 255)) ∧
    (n.st = .waitSleep → n.wbsFrom + s.tWbs ≤ s0.now → Ends (.waitBeforeSleepElapsed at_) s asleep) ∧
    (s.running = true → 1 ≤ cause → cause ≤ 8 → cause ≠ 2 ∨ s.nmLocalWake = true → sleeper →
      Ends (.networkWakeCause at_ cause src) s (fun t => woken t cause src)) ∧
    (s.inRun = true → n.wakelOn = false → n.wakelUntil + 1030000 ≤ s0.now ∨ n.wakelUntil = 0 → sleeper →
      Ends (.wakelOutsideRise at_) s (fun t => woken t 3 0)) ∧
    ((s.linc c).st = .sleep → s.linGroup c = true → sleeper → Ends (.linWakePulse at_ c) s (fun t => woken t 7 c)) ∧
    (n.wakelOn = true → n.wakelUntil ≤ s0.now → Ends (.wakelPulseEnd at_) s (fun t =>
      t = { s0 with nm := { n with wakelOn := false } })) ∧
    (s.fsCounts = true → s.fsDeadline ≤ s0.now → calm s → Ends (.netmgrFailSafe at_) s (fun t => asleep t ∧
      t.nm.fsActive = true ∧ t.nm.fsCount = satInc n.fsCount 255 ∧
      (t.canc 0).trxSleep = true ∧ (t.canc 1).trxSleep = true ∧
      (t.src 0x46).total = satInc (s.src 0x46).total 255))

/-! ### Events: ACCESS (R366-R386) -/

/-- ACCESS (R366-R386): a telegram that passes the checks starts the write of its counter, one with a wrong MAC is
counted and logged, with the ninth in 10 s throttling begins, a corrupt one is counted, and while throttled all are
discarded; the completed write makes the telegram accepted: LAST, a PENDING slot becomes ACTIVE, and a SET starts the
session, an END ends it; a write whose page fails with no spare page left accepts nothing. The session timer, the throttle, the pending slot, the resynchronization candidate, the dealer
window and the lockout end at their instants; a key store write and a challenge complete with their answers. -/
def Obligations.AccessEvents : Prop :=
  ∀ (s : State) (at_ x ct pg : Nat) (n : Fin 8) (tel : TelegramIn) (bytes b : List Byte) (resync : Bool) (r : List TelWrite)
    (id w last : Word) (kT kI : BitVec 128) (kr : List KeyWrite) (o : Outst) (ch : Challenge) (p q : CoilIn)
    (rs : BitVec 64),
    let s0 := s.atPhase at_
    let a := s.acc
    let k := s.tok n
    let upd := fun (t : State) (f : Acc → Acc) => t = s0.updAcc f
    let only := fun (t : State) => t = { s0 with acc := t.acc } ∧ ∀ j, j < 8 → j ≠ n.val → t.tok j = s.tok j
    let logged := fun (t : State) (kind detail : Nat) => t.acc.nextEvent = (a.nextEvent + 1) % 65536 ∧
      ∃ e, t.acc.log.getLast? = some e ∧ bits e.1 16 8 = kind ∧ bits e.1 24 4 = detail
    let heard := a.uhfen = true ∧ s.inRun = true ∧ a.uhfAt + 5000000 + 10 * tel.periods.sum ≤ s0.now ∧
      12 ≤ tel.preamble ∧ tel.sync = 0x2D
    let sound := tel.violation = false ∧ (∀ y ∈ tel.periods, 18000 ≤ y ∧ y ≤ 22000) ∧ 15 ≤ bytes.length
    let on := heard ∧ sound ∧ b = bytes.take 15
    let format := byteAt b 0 = 0x10 ∧ byteAt b 10 / 16 % 8 = 0
    let steady := fun (c : CoilIn) => 100 * (s.cfg 0x400C0000 4 4 + 1) ≤ 5 * c.ma ∧ c.ma ≤ 2000
    let open_ := ∀ e, a.throttleEnd = some e → e ≤ s0.now
    let recent := a.recent.filter (fun e => decide (s0.now ≤ e + 10000000000))
    let waits := s.eng.outst = [o] ∧ o.answer = none
    let giving := fun (ws : List Word) => { s.eng with outst := [{ o with answer := some (0, ws) }] }
    (heard → ¬ sound → Ends (.telegramReceived at_ bytes tel) s (fun t => upd t (fun a => { a with
      cntCorrupt := satInc a.cntCorrupt 255 }))) ∧
    (on → a.throttleEnd = some x → s0.now < x → Ends (.telegramReceived at_ bytes tel) s (fun t => only t ∧
      t.acc.cntThrottled = satInc a.cntThrottled 255 ∧ t.acc.writes = a.writes ∧ t.tok n = k ∧ logged t 0x09 0)) ∧
    (on → format → open_ → s.tokenSlot (be32 b 1) = some n.val →
      (macOk k.kT b = true → k.latest = none →
        let d := (be32 b 5 - s.lastOf n).toNat
        1 ≤ d → d ≤ s.accWindow → Ends (.telegramReceived at_ bytes tel) s (fun t => only t ∧
          t.acc.writes = a.writes ++ [⟨n.val, b, false⟩] ∧
          t.tok n = { k with latest := some (b, s0.now), battLow := decide (128 ≤ byteAt b 10) })) ∧
      (macOk k.kT b = false → recent.length < 8 → Ends (.telegramReceived at_ bytes tel) s (fun t => only t ∧
        t.tok n = k ∧ t.acc.writes = a.writes ∧ t.acc.cntInvalid = satInc a.cntInvalid 255 ∧
        t.acc.recent = recent ++ [s0.now] ∧ t.acc.throttleEnd = a.throttleEnd ∧ logged t 0x08 3)) ∧
      (macOk k.kT b = false → recent.length = 8 → calm s → Ends (.telegramReceived at_ bytes tel) s (fun t =>
        t = { s0 with acc := t.acc, flt := t.flt } ∧ t.acc.slots = a.slots ∧
        t.acc.throttleEnd = some (s0.now + 60000000000) ∧ t.acc.thrFlag = true ∧
        t.acc.thrEntries = satInc a.thrEntries 255 ∧ (t.src 0x48).total = satInc (s.src 0x48).total 255))) ∧
    (a.writes = ⟨n.val, b, resync⟩ :: r → k.st ≠ .empty → k.tokenId = be32 b 1 →
      Ends (.telegramAccepted at_ .good) s (fun t => only t ∧ t.acc.writes = r ∧
        t.tok n = { k with last := be32 b 5, st := .active } ∧ t.acc.cntValid = satInc a.cntValid 255 ∧
        (a.session = none → byteAt b 9 = 1 ∨ byteAt b 9 = 3 → t.acc.session = some n.val ∧
          t.acc.sessionEnd = s0.now + s.cfg 0x400C0000 8 8 * 1000000000) ∧
        (a.session = none → byteAt b 9 ≠ 1 → byteAt b 9 ≠ 3 → t.acc.session = none) ∧
        (a.session = some x → byteAt b 9 = 2 → t.acc.session = none ∧ t.acc.lastEnd = 4) ∧
        (a.session = some x → byteAt b 9 ≠ 2 → t.acc.session = some x ∧
          t.acc.cntIgnored = satInc a.cntIgnored 255))) ∧
    (a.writes = ⟨n.val, b, resync⟩ :: r → s.mem.sparePage = none → calm s →
      Ends (.telegramAccepted at_ (.badPage pg)) s (fun t => t = { s0 with acc := t.acc, mem := t.mem, flt := t.flt } ∧
        t.acc = { a with writes := r } ∧ (t.src 0x4C).total = satInc (s.src 0x4C).total 255 ∧
        (t.src 0x54).total = satInc (s.src 0x54).total 255)) ∧
    (a.session = some x → a.sessionEnd ≤ s0.now → Ends (.sessionTimeout at_) s (fun t => only t ∧
      t.acc.session = none ∧ t.acc.lastEnd = 5 ∧ t.tok n = k ∧ logged t 0x10 5)) ∧
    (a.throttleEnd = some x → x ≤ s0.now → Ends (.throttleEnd at_) s (fun t => upd t (fun a => { a with
      throttleEnd := none, recent := [], thrFlag := false }))) ∧
    (k.cand = some (w, x) → x + 10000000000 ≤ s0.now → Ends (.resyncCandidateExpiry at_ n) s (fun t => only t ∧
      t.tok n = { k with cand := none })) ∧
    (k.st = .pending → k.pendFrom + 600000000000 ≤ s0.now → Ends (.pendingSlotExpiry at_ n) s (fun t => only t ∧
      t.tok n = default ∧ logged t 0x23 0)) ∧
    (a.dealerEnd = some x → x ≤ s0.now → Ends (.dealerWindowClose at_) s (fun t => upd t (fun a => { a with
      dealerEnd := none }))) ∧
    (a.lockEnd = some x → x ≤ s0.now → Ends (.dealerLockoutEnd at_) s (fun t => upd t (fun a => { a with
      lockEnd := none, lockFlag := false }))) ∧
    (a.keyWrites = .enrol n.val id last kT kI :: kr → waits → o.wait = .enrol n.val →
      Ends (.keyStoreWriteDone at_ .good) s (fun t => t = { s0 with acc := t.acc, eng := giving [] } ∧
        t.tok n = { (default : TokenSlot) with st := .pending, tokenId := id, kT := kT, kI := kI, last := last
                                               pendFrom := s0.now } ∧
        (∀ j, j < 8 → j ≠ n.val → t.tok j = s.tok j) ∧ t.acc.keyWrites = kr ∧ logged t 0x20 0)) ∧
    (a.keyWrites = .revoke n.val :: kr → waits → o.wait = .revoke → Ends (.keyStoreWriteDone at_ .good) s (fun t =>
      t = { s0 with acc := t.acc, eng := giving [] } ∧ t.tok n = default ∧
      (∀ j, j < 8 → j ≠ n.val → t.tok j = s.tok j) ∧ t.acc.keyWrites = kr ∧
      t.acc.session = (if a.session = some n.val then none else a.session))) ∧
    (a.keyWrites = .revoke n.val :: kr → waits → o.wait = .revoke → s.mem.sparePage = none → calm s →
      Ends (.keyStoreWriteDone at_ (.badPage pg)) s (fun t => t.acc = { a with keyWrites := kr } ∧
        t.eng = { s.eng with outst := [{ o with answer := some (0x21, []) }] } ∧
        (t.src 0x4C).total = satInc (s.src 0x4C).total 255)) ∧
    (a.challenge = some ch → waits → o.wait = .challenge →
      (ch.supply = true → Ends (.accChallengeDone at_ p q) s (fun t =>
        t = { s0 with eng := giving [4, 0], acc := { a with challenge := none, lfFail := satInc a.lfFail 255 } })) ∧
      (ch.supply = false → ch.coils = 2 ∨ (ch.coils = 3 ∧ steady p ∧ p.answer = none) → steady q → q.answer = none →
        ch.since + 50000000 ≤ s0.now → Ends (.accChallengeDone at_ p q) s (fun t =>
          t = { s0 with eng := giving [1, 0], acc := { a with challenge := none, lfFail := satInc a.lfFail 255 } })) ∧
      (ch.supply = false → ch.coils = 1 → ct = place 1 4 2 + place n.val 8 3 + 0x800 → steady p →
        p.answer = some (id, rs) → s.tokenSlot id = some n.val → ch.since + 71000000 ≤ s0.now →
        rs = (aes128 k.kI (ch.nonce ++ id ++ (0 : Word))).extractLsb' 64 64 → Ends (.accChallengeDone at_ p q) s (fun t =>
        t = { s0 with eng := giving [w32 ct, id], acc := t.acc } ∧ t.acc.challenge = none ∧
        t.acc.lfOk = satInc a.lfOk 255 ∧
        t.tok n = { k with st := if k.st = .pending then .active else k.st })) ∧
      (ch.supply = false → ch.coils = 1 → ¬ steady p → ch.since ≤ s0.now → calm s →
        Ends (.accChallengeDone at_ p q) s (fun t =>
        t = { s0 with eng := giving [w32 (5 + place 1 4 2), 0], flt := t.flt
                      acc := { a with challenge := none, lfFail := satInc a.lfFail 255 } } ∧
        (t.src 0x4A).total = satInc (s.src 0x4A).total 255)))

/-! ### Events: faults and memories (R41-R45, R428-R437, R450-R459) -/

/-- The counting of R429 and R430 and the reactions of R432 to R437, shown on BUS_LOCK_LEASE: below N the count rises
within its window and no severe transition is made; at N the source is severe, COUNT is 0 and the notification is
raised unless REACT is 0; REACT 2 enters RECOVERY with the safe state, the trap and the declaration of a party that is
not the core executive; REACT 4 makes the warm reset with its cause. A window that closes returns the source to IDLE,
and the quiet period ends RECOVERY. -/
def Obligations.FaultCountingAndReactions : Prop :=
  ∀ (s : State) (at_ x held : Nat) (n : Fin 96) (m : Master),
    let s0 := s.atPhase at_
    let f := s.src 0x10
    let count := match f.openAt with
      | some y => if s0.now < y + s.faultWin 0x10 then f.count + 1 else 1
      | none => 1
    let opened := match f.openAt with
      | some y => if s0.now < y + s.faultWin 0x10 then y else s0.now
      | none => s0.now
    let kept := fun (t : State) => (t.src 0x10).total = satInc f.total 255 ∧ (t.src 0x10).captured = true ∧
      (t.src 0x10).cap = (if f.captured = true then f.cap else captureOf (blameEvent 0x10 0 m.id) s0.now) ∧
      (∀ i, i ≠ 0x10 → t.src i = s.src i)
    let party := (m = .ce ∨ m = .dma ∨ m = .netdma) ∧ s.flt.declared.testBit m.id = false ∧ 512 ≤ held
    (party → s.inRun = true → s.pwr.woken = false → s.flt.owed = [] →
      (count < s.faultN 0x10 → s.flt.st ≠ .recovery → Ends (.busLockLeaseExpiry at_ ⟨m, held⟩) s (fun t =>
        t = { s0 with flt := t.flt } ∧ kept t ∧ (t.src 0x10).count = count ∧ (t.src 0x10).openAt = some opened ∧
        (t.src 0x10).severe = f.severe ∧ (t.src 0x10).severeCnt = f.severeCnt ∧ (t.src 0x10).pend = f.pend)) ∧
      (s.faultN 0x10 ≤ count →
        (s.faultReact 0x10 ≤ 1 → Ends (.busLockLeaseExpiry at_ ⟨m, held⟩) s (fun t =>
          t = { s0 with flt := t.flt } ∧ kept t ∧ (t.src 0x10).count = 0 ∧ (t.src 0x10).openAt = none ∧
          (t.src 0x10).severe = true ∧ (t.src 0x10).severeCnt = satInc f.severeCnt 255 ∧
          (t.src 0x10).pend = (f.pend || decide (s.faultReact 0x10 = 1)) ∧ t.flt.st = s.flt.st ∧
          t.flt.fltnHold = (s.flt.fltnHold || s.fltnEn 0x10))) ∧
        (s.faultReact 0x10 = 2 → s.flt.st = .normal → (∀ k, k < 8 → (s.vl k).st = .off) → Ends (.busLockLeaseExpiry at_ ⟨m, held⟩) s (fun t =>
          kept t ∧ (t.src 0x10).pend = true ∧ t.flt.st = .recovery ∧ t.flt.quietFrom = s0.now ∧
          t.flt.cause = 0x10 ∧ t.flt.scopeBlock = false ∧ t.flt.safe = true ∧ t.pwr.nmi = true ∧
          t.flt.declared = s.flt.declared ||| (if m = .ce then 0 else 1 <<< m.id) ∧ t.regs = s.regs ∧
          (∀ k, k < 48 → hasLoad s.var k = true → (t.ch k).safeHeld = true ∧
            (t.ch k).safeLevel = (s.holdClass k && s.limpState k)))) ∧
        (s.faultReact 0x10 = 4 → (∀ k, k < 8 → (s.vl k).st = .off) → Ends (.busLockLeaseExpiry at_ ⟨m, held⟩) s (fun t =>
          t.pwr.phase = .startup ∧ t.pwr.rstCause = s.pwr.rstCause ||| 16 ∧ t.flt.lastChip = 0x10 ∧ kept t ∧
          t.regs = keptRegs s.regs ∧ t.core = coreReset)))) ∧
    ((s.src n).openAt = some x → x + s.faultWin n ≤ s0.now → Ends (.faultWindowClose at_ n) s (fun t =>
      t = s0.updSrc n (fun f => { f with count := 0, openAt := none }))) ∧
    ((s.src n).openAt = some x → s0.now < x + s.faultWin n → Ends (.faultWindowClose at_ n) s (fun t => t = s0)) ∧
    (s.inRun = true → s0.clk.phase ≤ 6100 → s.flt.st = .recovery → s.flt.quietFrom + s.cfg 0x400D0000 0 10 * 10000000 ≤ s0.now →
      Ends (.recoveryExit at_) s (fun t => t.flt = { s.flt with
        st := .normal, safe := false, declared := 0, recoveries := satInc s.flt.recoveries 65535
        fltnHold := s.flt.fltnHold && !s.cfgBit 0x400D0000 10 } ∧ t.regs = s.regs ∧ t.mem = s.mem ∧ t.core = s.core))

/-- The scrubber walks word by word through the memories, one read in each interval, and counts a pass at their end
(R456), corrects one error and counts it against the row, and poisons the words that a failing decode leaves (R450-R453);
an interval without a grant is a debt, which a read back to back pays (R457). A row or page that is due moves to the
lowest free spare, with its ledger entry waiting for the next racking (R42, R455, R459), or, with no spare left, is
reported once; a rewrite of the ledger ends with both copies good, and an encryption of the window bank ends with BUSY 0.
What a page decode of more than 8 byte errors gives is the model's choice (log 114). -/
def Obligations.MemoryEvents : Prop :=
  ∀ (s : State) (at_ key cause sp a p : Nat) (e pe : PageErr) (r : List (Nat × Nat)),
    let s0 := s.atPhase at_
    let mem := s.mem
    let rate := s.cfg 0x400E0000 4 13 * 1000
    let start := max mem.scrubAt s.clk.epoch
    let paced := start + ((s0.now - start) / rate + 1) * rate
    let scrubs := s.inRun = true ∧ s.cfgBit 0x400E0000 0 = true ∧ mem.scrubAddr = a
    let due := scrubs ∧ start ≤ s0.now
    let plain := kvGet mem.inj a = none ∧ a ∉ mem.poison
    let next := if a = 0xFFFC then 0x10000000 else if a = 0x100FFFFC then 0x20000000 else a + 4
    let counts := fun (t : State) (i : Nat) => (t.src i).total = satInc (s.src i).total 255
    (plain → a ≠ 0x2005FFFC → (a % 0x400 = 0x3FC → mem.walkDirty = false) →
      (due → Ends (.scrubRead at_ .onTime .clean false pe) s (fun t =>
        t = { s0 with mem := { mem with scrubAddr := next, scrubAt := paced } })) ∧
      (scrubs → mem.debt ≠ 0 → Ends (.scrubRead at_ .catchUp .clean false pe) s (fun t =>
        t = { s0 with mem := { mem with scrubAddr := next, debt := mem.debt - 1 } }))) ∧
    (due → plain → 0x20000000 ≤ a → a < 0x20060000 → a % 0x400 ≠ 0x3FC → calm s →
      Ends (.scrubRead at_ .onTime .one false pe) s (fun t =>
        t = { s0 with mem := t.mem, flt := t.flt } ∧ t.mem.scrubAddr = a + 4 ∧ t.mem.last = a ∧
        t.mem.sramCe = satInc mem.sramCe 255 ∧ t.mem.bytes = mem.bytes ∧ t.mem.poison = mem.poison ∧
        kvGet t.mem.rowCe (rowKey a) = some ((kvGet mem.rowCe (rowKey a)).getD 0 + 1) ∧ counts t 0x55) ∧
      (a ∈ lostWords a e → Ends (.scrubRead at_ .onTime (.two e) false pe) s (fun t =>
        t = { s0 with mem := t.mem, flt := t.flt } ∧ t.mem.scrubAddr = a + 4 ∧ t.mem.last = a ∧
        (∀ b, b ∈ t.mem.poison ↔ b ∈ mem.poison ∨ b ∈ lostWords a e) ∧
        t.mem.rsFail = satInc mem.rsFail 255 ∧ t.mem.ue = satInc mem.ue 255 ∧ t.mem.bytes = mem.bytes ∧
        counts t 0x58 ∧ counts t 0x56)) ∧
      (lostWords a e = [] → Ends (.scrubRead at_ .onTime (.two e) false pe) s (fun t =>
        t = { s0 with mem := t.mem, flt := t.flt } ∧ t.mem.scrubAddr = a + 4 ∧ t.mem.last = a ∧
        t.mem.poison = mem.poison ∧ t.mem.rsCorrect = satInc mem.rsCorrect 255 ∧ t.mem.bytes = mem.bytes ∧
        (kvGet t.mem.rowDue (rowKey a)).isSome = true ∧ counts t 0x57))) ∧
    (due → plain → a = 0x2005FFFC → mem.walkDirty = false →
      Ends (.scrubRead at_ .onTime .clean false pe) s (fun t => t = { s0 with mem := { mem with
        scrubAddr := 0, passes := (mem.passes + 1) % 65536, rowCe := [], pageCe := [], lagSeen := false
        scrubAt := paced } })) ∧
    (scrubs → start + rate ≤ s0.now →
      (mem.debt < 15 → Ends (.scrubRead at_ .late .clean false pe) s (fun t =>
        t = { s0 with mem := { mem with debt := mem.debt + 1, scrubAt := start + rate } })) ∧
      (mem.debt = 15 → mem.lagSeen = false → calm s → Ends (.scrubRead at_ .late .clean false pe) s (fun t =>
        counted { s0 with mem := { mem with debt := 16, lagSeen := true, scrubAt := start + rate } } t 0x5C))) ∧
    (mem.rowDue = (key, cause) :: r → calm s → key < 1536 →
      (mem.spareRow (key / 256) = some sp → s.pwr.fuseFailed = false → Ends (.rowReplacement at_) s (fun t =>
        t = { s0 with mem := t.mem, feat := t.feat, flt := t.flt } ∧ t.mem.rowDue = r ∧
        t.mem.rows = satInc mem.rows 255 ∧
        vget t.mem.rowSpares (key / 256) = vget mem.rowSpares (key / 256) ++ [(key % 256, sp)] ∧
        t.feat = { s.feat with waiting := s.feat.waiting ++ [⟨
          w32 (place (key % 256) 0 16 + place (key / 256) 16 8 + place cause 24 4 + place 2 28 4),
          w32 (place sp 0 16 + place s.feat.powerCycles 16 16)⟩] } ∧ counts t 0x59)) ∧
      (mem.spareRow (key / 256) = none → (2, key) ∉ mem.exhaustSeen → Ends (.rowReplacement at_) s (fun t =>
        counted { s0 with mem := { mem with rowDue := r, exhaustSeen := mem.exhaustSeen ++ [(2, key)] } } t 0x5B)) ∧
      (mem.spareRow (key / 256) = none → (2, key) ∈ mem.exhaustSeen → Ends (.rowReplacement at_) s (fun t =>
        t = { s0 with mem := { mem with rowDue := r } }))) ∧
    (mem.pageDue = (p, cause) :: r → calm s →
      (mem.sparePage = some sp → s.pwr.fuseFailed = false → Ends (.flashRefresh at_) s (fun t =>
        counted { s0 with
          mem := { mem with pageDue := r, pageSpares := mem.pageSpares ++ [(p, sp)], refresh := satInc mem.refresh 255 }
          feat := { s.feat with waiting := s.feat.waiting ++ [⟨
            w32 (place p 0 16 + place cause 24 4 + place 3 28 4),
            w32 (place sp 0 16 + place s.feat.powerCycles 16 16)⟩] } } t 0x5A)) ∧
      (mem.sparePage = none → (3, p) ∉ mem.exhaustSeen → Ends (.flashRefresh at_) s (fun t =>
        counted { s0 with mem := { mem with pageDue := r, exhaustSeen := mem.exhaustSeen ++ [(3, p)] } } t 0x5B))) ∧
    (s.feat.rewriting = true → s.pwr.fuseFailed = false → Ends (.ledgerRewriteDone at_) s (fun t =>
      let c : LedgerCopy := { gen := max s.feat.copyA.gen s.feat.copyB.gen + 1, good := true, entries := s.feat.ledger
                              powerCycles := s.feat.powerCycles }
      t = { s0 with feat := { s.feat with rewriting := false, ledgerValid := true, copyA := c, copyB := c } })) ∧
    (s.win.busy = true → s.win.busyUntil ≤ s0.coreNow → Ends (.aesComplete at_) s (fun t =>
      t = { s0 with win := { s.win with busy := false } }))

/-! ### Events: power-state entry, Park, Cellar and their ends (R81-R91, R256, R263, R264, R331, R461) -/

/-- An entry ends its ask step at the delay limit, drains once its OK reply has been read or is abandoned after 10 ms,
and hands over: the keepers take the hold-class channels (R84-R86). 30 µs later Park or Cellar is reached: Park keeps the
live image, the time, SB1 and the keepers with no lease, Cellar keeps the wake configuration alone (R81, R85, R331, R461).
An enabled wake abandons an entry, ends Park and ends Cellar with its record; a Park cycle samples the armed ports; and
the Park exit loads the live image, with the armed ports in the state that Park saw last (R86-R91, R256, R263, R264).
That INDEX holds the lowest of several ports is the model's choice (log 89). -/
def Obligations.PowerEntryEvents : Prop :=
  ∀ (s : State) (at_ code i cycles : Nat) (e : Entry) (o : Outst) (raw : BitVec 64) (b : BootIn)
    (pins : List (Nat × Contact)) (also : List Nat),
    let s0 := s.atPhase at_
    let p := s.pwr
    let quits := fun (cause : Nat) (t : State) =>
      t.pwr = { p with entry := none, abandon := cause, refuser := 0, resumeDue := decide (2 ≤ e.step)
                       handBack := e.took, wakeRec := t.pwr.wakeRec, wakeTime := t.pwr.wakeTime } ∧
      t.link = if 2 ≤ e.step then { s.link with lossState := if s.lossEnabled then 1 else 0, silentFrom := s0.now }
        else s.link
    let ramped := { s0.clk with rampDir := if e.step = 3 then 2 else s0.clk.rampDir }
    let on := fun (cellar port : Bool) (wake cfg : Word) =>
      (code = 1 ∧ cellar = false ∧ port = true) ∨ (code = 2 ∧ cellar = true ∧ cfg.getLsbD 0 = true) ∨
      (code = 3 ∧ wake.getLsbD 0 = true) ∨ (code = 4 ∧ wake.getLsbD 1 = true) ∨ (code = 5 ∧ wake.getLsbD 2 = true)
    let record := fun (st step : Nat) => w32 (place code 0 4 + place (if code = 1 then i else 0) 8 6 + place st 16 3 +
      place step 20 2 + place (2 ^ (code - 1)) 24 7)
    let asks := p.phase = .run ∧ p.entry = some e
    let told := fun (st : Nat) (t : State) => t.eng = { s.eng with outst := [{ o with answer := some (st, [t.pwrStat]) }] }
    let mine := s.eng.outst = [o] ∧ o.ticket = e.ticket ∧ o.answer = none
    let at_pin := (pins.foldl (fun t p => { t with contact := vput t.contact p.1 p.2 }) s0).contact
    let sampled := s.supply.low = false ∧ ∀ k, k < 64 → s.armed k = true →
      contactRaw (vget at_pin k) (s.reg (siCfg k)) (bits (s.reg (siCfg k)) 24 3) (s.si k).raw = some (raw.getLsbD k)
    let run := fun (k : Nat) => if raw.getLsbD k = (s.si k).ref then 0 else (s.si k).parkRun + 1
    let cycle := { p with parkN := p.parkN + 1 }
    (asks → e.step = 1 → e.since + s.cfg 0x40000040 0 10 * 1000000 ≤ s0.now → mine →
      Ends (.entryDelayLimit at_) s (fun t => quits 2 t ∧ told 0x30 t ∧ t = { s0 with pwr := t.pwr, eng := t.eng })) ∧
    (asks → e.step = 2 → e.drained = false →
      (s.link.hcsnLow = false → (∀ r ∈ s.link.replies ++ s.link.held, r.num ≠ e.okReply) → Ends (.drainComplete at_) s (fun t =>
        t = { s0 with pwr := { p with entry := some { e with drained := true, since := s0.now } } })) ∧
      (e.since + 10000000 ≤ s0.now → Ends (.drainTimeout at_) s (fun t => quits 3 t ∧
        t = { s0 with pwr := t.pwr, link := t.link }))) ∧
    (asks → e.step = 2 → e.drained = true → e.since ≤ s.clk.tickNs → Ends (.handOver at_) s (fun t =>
      t = { s0 with pwr := t.pwr, load := t.load, clk := { s0.clk with rampDir := 1 } } ∧
      (∃ l, t.pwr.entry = some { e with step := 3, since := s0.now, took := l } ∧
        ∀ k, k ∈ l ↔ k < 48 ∧ hasLoad s.var k = true ∧ s.holdClass k = true ∧ (s.ch k).keeper.held = false) ∧
      (∀ k, k < 48 → hasLoad s.var k = true → t.ch k = { s.ch k with
        keeper := if (s.ch k).keeper.held = false ∧ s.holdClass k = true then ⟨true, s0.keeperTakes k, false⟩ else (s.ch k).keeper }))) ∧
    (asks → e.step = 3 → e.since + 30000 ≤ s0.now →
      (e.cellar = false → Ends (.parkCommit at_) s (fun t =>
        t.pwr.phase = .park ∧ t.pwr.entry = none ∧ t.pwr.leaseEnd = none ∧ t.pwr.holdState = 0 ∧ t.pwr.woken = false ∧
        t.now = s0.now ∧ t.live = s.live ∧ t.mem.bytes = s.mem.bytes.filter (fun q => decide (bankNum q.1 = 1)) ∧
        t.core = coreReset ∧ t.eng = default ∧ t.link.replies = [] ∧ t.vat.st = .closed ∧ t.acc.session = none ∧
        (∀ k, k < 8 → t.tok k = { s.tok k with latest := none, cand := none }) ∧ t.feat = s.feat ∧ (∀ k, k < 48 → (t.ch k).keeper = (s.ch k).keeper) ∧
        (∀ k, k < 64 → (t.si k).ref = (s.si k).ref ∧ (t.si k).valid = false))) ∧
      (e.cellar = true → Ends (.cellarCommit at_) s (fun t =>
        t.pwr.phase = .cellar ∧ t.pwr.cellarWake = s.reg 0x40000048 ∧ t.pwr.cellarCfg = s.reg 0x4000004C ∧
        t.regs = [] ∧ t.live = default ∧ t.mem = memReset ∧ t.core = coreReset ∧ t.vat.stored = s.vat.stored ∧
        t.load = State.reset.load ∧ t.flt = fltReset))) ∧
    (asks → code = 3 ∨ s.nmLocalWake = false → i < 64 →
      on e.cellar (s0.portFires i) (s.reg 0x40000048) (s.reg 0x4000004C) →
      (2 ≤ e.step → Ends (.wakeSourceFired at_ [code] i cycles) s (fun t => quits 4 t ∧
        t = { s0 with pwr := t.pwr, link := t.link, clk := ramped } ∧ t.pwr.wakeTime = 0 ∧
        t.pwr.wakeRec = record (if e.cellar then 2 else 0) e.step)) ∧
      (e.step = 1 → mine → Ends (.wakeSourceFired at_ [code] i cycles) s (fun t => quits 4 t ∧ told 0x30 t ∧
        t = { s0 with pwr := t.pwr, eng := t.eng } ∧ t.pwr.wakeRec = record (if e.cellar then 2 else 0) 1))) ∧
    (p.phase = .run → p.entry = none → Ends (.wakeSourceFired at_ [code] i cycles) s (fun t => t = s0)) ∧
    (p.phase = .park → p.woken = false → p.entry = none →
      (on false false (s.reg 0x40000048) (s.reg 0x4000004C) →
        Ends (.wakeSourceFired at_ [code] i cycles) s (fun t => t = { s0 with pwr := { p with
          wakeRec := record 1 0, wakeTime := cycles % 2 ^ 32, woken := true } })) ∧
      (sampled → (∀ k, k < 64 → s.armed k = true → run k < s.nPark k) → Ends (.parkSample at_ pins also) s (fun t =>
        t = { s0 with port := t.port, contact := at_pin, pwr := cycle } ∧
        ∀ k, k < 64 → t.si k = if s.armed k = true then
          { s.si k with raw := raw.getLsbD k, parkState := raw.getLsbD k, parkRun := run k } else s.si k)) ∧
      (sampled → i < 64 → s.armed i = true → s.nPark i ≤ run i →
        (∀ k, k < i → s.armed k = true → run k < s.nPark k) → Ends (.parkSample at_ pins []) s (fun t =>
        t.pwr = { cycle with woken := true, wakeTime := (p.parkN + 1) * (262 * s.cfg 0x40050404 0 6) % 2 ^ 32
                             wakeRec := w32 (place 1 0 4 + place i 8 6 + place 1 16 3 + place 1 24 7) })) ∧
      (s.supply.low = true → (∀ k, k < 64 → s.armed k = true → (s.si k).parkRun < s.nPark k) →
        Ends (.parkSample at_ pins also) s (fun t => t = { s0 with contact := at_pin, pwr := cycle }))) ∧
    (p.phase = .cellar → p.entry = none → on true false p.cellarWake p.cellarCfg →
      Ends (.cellarWake at_ [code]) s (fun t => t.pwr.phase = .startup ∧ t.pwr.rstCause = p.rstCause ||| 32 ∧
        t.pwr.wakeRec = record 3 0 ∧ t.pwr.cellarWake = p.cellarWake ∧ t.regs = [] ∧ t.core = coreReset)) ∧
    (p.phase = .park → p.woken = true → Ends (.parkExit at_ b) s (fun t =>
      t.pwr.phase = .run ∧ t.pwr.booted = true ∧ t.pwr.woken = true ∧ t.regs = s.live.regs ∧
      (kvSorted s.live.regs = true → ∀ a, kvGet t.svc a = kvGet s.live.regs a) ∧ t.live = s.live ∧ t.clk.phase = 0 ∧
      t.clk.tickNs = s.clk.tickNs + p.wakeTime * 1000000000 / (if s.clk.parkHz = 0 then 32768 else s.clk.parkHz) ∧
      t.tim.bridged = true ∧ (∀ k, k < 48 → (t.ch k).keeper = (s.ch k).keeper) ∧
      (∀ k, k < 64 → s.armed k = true → (t.si k).state = (s.si k).parkState ∧ (t.si k).valid = true ∧
        (t.si k).cmdLatch = ((s.si k).parkState != (s.si k).ref))))

/-! ### Register accesses of the bus masters (R6, R13-R18, R37, R69, R103, R104, R109, R163, R255, R280, R281, R411, R442, R463) -/

/-- A write of a staged register that its block follows at once is stored and acts; a word written to SB5 stands in
its four bytes, lowest first; an access that nothing decodes or that its master does not reach changes nothing but the
fault collector, and its read returns ones. Reading the low word of a 64-bit value or of an edge record keeps the other
half for the same master, the change registers of the inputs clear as they are read, a 1 clears a pending notification,
MEMINT_INJECT arms its mask, the coprocessor window computes its CRC and its encryption, and a block reset returns the
block to its Reset values, gated for 1 µs, while an access that holds the block's port for more than 64 SYS cycles ends
as GATE_ABORT. Every access tells its master how it ended. -/
def Obligations.RegisterAccesses : Prop :=
  ∀ (s : State) (at_ a b : Nat) (m : Master) (n : Fin 4) (i : Fin 3) (v : Word) (hi : Bool)
    (f : Option Flight) (x : Flight),
    let s0 := s.atPhase at_
    let read := fun (u t : State) (w : Word) => t = { u with busOut := w, busEnd := .ok }
    let stops := fun (wr : Bool) (a src : Nat) (r : BusRes) => s.outOfSegs m wr a = false ∧
      s0.accessStop { m := m.id, kind := b2n wr, size := 2 } a wr = some (src, r)
    let swept := s0.sweepPorts
    let key := bits v 8 8 = 0xB5
    (s.running = true → calm s →
      (∀ src r, stops true a src r → Ends (.registerWrite at_ m a v) s (fun t => counted { s0 with busEnd := r } t src)) ∧
      (∀ src r, stops false a src r → Ends (.lowWordRead at_ m a) s (fun t =>
        counted { s0 with busOut := 0xFFFFFFFF, busEnd := r } t src)) ∧
      (s.outOfSegs m true a = true → Ends (.registerWrite at_ m a v) s (fun t =>
        counted { s0 with busEnd := .error } t 0x0C)) ∧
      (s.outOfSegs m false a = true → Ends (.lowWordRead at_ m a) s (fun t =>
        counted { s0 with busOut := 0xFFFFFFFF, busEnd := .error } t 0x0C)) ∧
      (opens s0 m true 0x4000000C → ¬ key → Ends (.blockRstWrite at_ m ⟨v, f⟩) s (fun t =>
        counted { s0 with busEnd := .error } t 0x0C)) ∧
      (opens s0 m true 0x4000000C → key → bits v 0 5 = 8 → flightMeets v x = true → 64 < x.left →
        Ends (.blockRstWrite at_ m ⟨v, some x⟩) s (fun t => t.lin = default ∧ t.pwr.rstCause = s.pwr.rstCause ||| 64 ∧
          t.busOut = (if x.write then s.busOut else 0xFFFFFFFF) ∧
          (t.src 0x0E).total = satInc (s.src 0x0E).total 255 ∧ t.mem = s.mem ∧ t.can = s.can))) ∧
    (opens s0 m true a → (stagedAt a).isSome = true → actsAtOnce a = true → a ≠ 0x40010000 → a ≠ 0x40020014 →
      a ≠ 0x400C0000 → a < 0x400D0100 → 0x40000030 < a → Ends (.registerWrite at_ m a v) s (fun t =>
        t = { s0 with regs := stWrite s.regs a v, svc := stWrite s.svc a v, busEnd := .ok })) ∧
    (opens s0 m true a → 0x20050000 ≤ a → a < 0x20060000 → memWf s.mem.bytes = true →
      Ends (.registerWrite at_ m a v) s (fun t => t = { s0 with mem := t.mem, busEnd := .ok } ∧
        ∀ b, sbyte t b = if a ≤ b ∧ b < a + 4 then byteOf v (b - a) else sbyte s b)) ∧
    (opens s0 m false (0x400A0000 + 8 * n.val) → Ends (.lowWordRead at_ m (0x400A0000 + 8 * n.val)) s (fun t =>
      let x := s0.tbAt n s0.now
      read (s0.latch n m.id (x / 2 ^ 32 % 2 ^ 32)) t (BitVec.ofNat 32 x))) ∧
    (opens s0 m false (0x400A0004 + 8 * n.val) → Ends (.lowWordRead at_ m (0x400A0004 + 8 * n.val)) s (fun t =>
      read s0 t (s.latched n m.id))) ∧
    (opens s0 m false (0x400601C0 + 8 * n.val) → Ends (.fieldEdgeTRead at_ m n) s (fun t =>
      read (s0.latch (2000 + n) m.id (s.edgeInfo n).toNat) t (s.edgeT n))) ∧
    (opens s0 m false (if hi then 0x4005041C else 0x40050418) → Ends (.swinChgRead at_ m hi) s (fun t =>
      t = { swept with port := t.port, busOut := t.busOut, busEnd := .ok } ∧
      (∀ k, k < 32 → t.busOut.getLsbD k = (swept.si (if hi then 32 + k else k)).regLatch) ∧
      ∀ k, k < 64 → t.si k = { swept.si k with regLatch := (swept.si k).regLatch && (decide (k < 32) == hi) })) ∧
    (opens s0 m false 0x40060014 → Ends (.fieldChgRead at_ m) s (fun t =>
      t = { s0 with field := t.field, busOut := t.busOut, busEnd := .ok } ∧
      ∀ k, k < 16 →
        t.busOut.getLsbD k = (s.fio k).regLatch ∧ t.fio k = { s.fio k with regLatch := false })) ∧
    (opens s0 m true (0x400D0020 + 4 * i.val) → Ends (.faultPendWrite at_ m i v) s (fun t =>
      t = { s0 with flt := t.flt, busEnd := .ok } ∧ t.flt.st = s.flt.st ∧ ∀ k, k < 96 → t.src k =
        { s.src k with pend := (s.src k).pend &&
          (!(decide (k / 32 = i.val) && v.getLsbD (k % 32)) || (s.src k).setAt == some s0.now) })) ∧
    (opens s0 m true 0x400E0020 → Ends (.memintInjectWrite at_ m v) s (fun t =>
      t = { s0 with mem := { s.mem with armed := if v.getLsbD 8 then some (bits v 0 7) else s.mem.armed }, busEnd := .ok })) ∧
    (opens s0 m true 0x50000008 → Ends (.copCrcWrite at_ m v) s (fun t => t = { s0 with win := { s.win with crc := v }, busEnd := .ok })) ∧
    (opens s0 m true 0x5000000C → Ends (.copCrcInWrite at_ m v) s (fun t =>
      t = { s0 with win := { s.win with crc := crcWord s.win.crc v }, busEnd := .ok })) ∧
    (opens s0 m true 0x50000030 → s.win.busy = false →
      (v.getLsbD 0 = true → Ends (.copAesStart at_ m v) s (fun t => t = { s0 with busEnd := .ok, win := { s.win with
        out := blockWords (aes128 (copBlock s.win.key) (copBlock s.win.inp)), busy := true
        busyUntil := s0.coreNow + 60 } })) ∧
      (v.getLsbD 0 = false → Ends (.copAesStart at_ m v) s (fun t => t = { s0 with busEnd := .ok }))) ∧
    (opens s0 m true 0x4000000C → key → bits v 0 5 = 8 → Ends (.blockRstWrite at_ m ⟨v, none⟩) s (fun t =>
      t = { s0 with regs := t.regs, svc := t.svc, clk := t.clk, lin := default, busEnd := .ok
                    pwr := { s.pwr with rstCause := s.pwr.rstCause ||| 64, blkAt := some s0.now } } ∧
      t.clk = { s0.clk with reload := insertAsc 8 s.clk.reload, gated := s.clk.gated ++ [(8, s0.now)] } ∧
      (∀ r, 0x40080000 ≤ r → r < 0x40090000 → t.stored r = stRead [] r) ∧
      (∀ r, r < 0x40080000 ∨ 0x40090000 ≤ r → t.stored r = s.stored r))) ∧
    Ends (.blockGateReopen at_ b) s (fun t => t = { s0 with clk := t.clk } ∧
      t.clk = { s0.clk with gated := t.clk.gated, gateWait := t.clk.gateWait } ∧
      (∀ g, g ∈ t.clk.gated ↔ g ∈ s.clk.gated ∧ (g.1 ≠ b ∨ s0.now < g.2 + 1000)) ∧
      ∀ g, g ∈ t.clk.gateWait ↔ g ∈ s.clk.gateWait ∧ (g.1 ≠ b ∨ s0.now < g.2))

/-! ### The block as a whole -/

/-- A step takes the command at the front of the queue and runs it with the rest of the queue; with an empty queue the
block idles (log 3). -/
def Obligations.StepRunsFrontCommand : Prop :=
  ∀ (s : State) (c : Instr) (r : List Instr),
    (s.pending = c :: r → step s = exec c { s with pending := r }) ∧ (s.pending = [] → step s = .next s)

/-- Every command and every event completes in every state, and leaves the queue of waiting commands and the device
variant, which fuses hold, as they were. -/
def Obligations.EveryCommandCompletes : Prop :=
  ∀ (i : Instr) (s : State), Ends i s (fun t => t.pending = s.pending ∧ t.feat.variant = s.feat.variant)

/-- After power-on reset the registers read their Reset values, nothing waits in the queue, the vat is closed, the
collector is in START with the safe state forced, the memory has its canonical form and g0 of the applet core is 0. That
the device then has no supply yet, and that the core's other registers are 0, are the model's choices (logs 1, 10). -/
def Obligations.ResetState : Prop :=
  let s := State.reset
  s.pending = [] ∧ s.live = default ∧ s.vat.st = .closed ∧ s.link.replies = [] ∧ s.eng.qNext = [] ∧
  s.flt.st = .start ∧ s.flt.safe = true ∧ memWf s.mem.bytes = true ∧ s.core.g = Vector.replicate 16 0 ∧
  (∀ n, n < 48 → (s.ch n).act.mode = .off ∧ (s.ch n).act.freq = 200 ∧ (s.ch n).keeper.held = false) ∧
  (∀ n, n < 8 → (s.vl n).st = .off ∧ (s.vl n).reachUs = 0xFFFF) ∧
  ∀ p ∈ [(0x40000008, 0x1), (0x40000020, 0x32), (0x40010000, 0x3), (0x40010100, 0), (0x40020014, 0),
      (0x40030040, 0x03231327), (0x40030044, 0), (0x400C0000, 0x000C1E58), (0x400D0000, 0x64), (0x400D0004, 0x4),
      (0x400D000C, 0xFF), (0x400E0000, 0x02400101), (0x400E001C, 0xFF)],
    s.peekReg p.1 = some (BitVec.ofNat 32 p.2)

/-- A host command that fails a check of R125 at arrival is answered with the status of the check, no payload and
no flag but EVENT, its refusal is counted, and nothing else changes (R125, R127); WATCH_INPUTS and the entry commands, in
whose racking the watches and wakes are looked at, where no watch is outstanding and no entry in progress (R260). A CAN or LIN command that names an
absent controller or channel is so answered ABSENT (R35). -/
def Obligations.RefusedCommandsOnlyAnswer : Prop :=
  ∀ (s : State) (c : HostCmd) (st : Nat), s.inRun = true → s.pwr.woken = false →
    let refuses := fun (op : Nat) (i : Instr) (st : Nat) => Ends i s (fun t =>
      t = { s with link := t.link, evSeq := s.evSeq + 1, eng := countStatus s.eng st } ∧
      ∃ r, t.link.replies ++ t.link.held = s.link.replies ++ s.link.held ++ [r] ∧ r.num = s.link.nextNum ∧
        r.seq = c.seq ∧ r.op = op ∧ r.node = c.node ∧ r.status = st ∧ r.payload = [] ∧ (r.flags = 0 ∨ r.flags = 32))
    (∀ p ∈ [
      (0x00, Instr.nop c), (0x01, .ping c), (0x02, .getStatus c), (0x03, .getFeatures c), (0x04, .cancel c),
      (0x10, .vatOpen c), (0x11, .vatWrite c), (0x12, .vatCheck c), (0x13, .vatBottle c), (0x14, .vatDiscard c),
      (0x15, .vatRead c), (0x16, .vatStore c), (0x17, .vatLoad c), (0x18, .caskDefine c), (0x19, .caskDelete c),
      (0x1A, .caskList c), (0x20, .setOut c), (0x21, .setDuty c), (0x22, .setPhase c), (0x23, .pulse c),
      (0x24, .clearLatch c), (0x28, .valveFire c), (0x29, .valveHold c), (0x2A, .valveRelease c),
      (0x30, .readInputs c), (0x31, .readDiag c), (0x32, .readSense c), (0x38, .fieldSet c),
      (0x39, .fieldRead c), (0x40, .canTx c), (0x41, .canRead c), (0x42, .canCtrl c), (0x43, .linTx c),
      (0x44, .linRead c), (0x45, .linSched c), (0x46, .linCtrl c), (0x48, .t1sTx c), (0x49, .timeGet c),
      (0x4A, .tsqRead c), (0x4B, .timeAdjust c), (0x4C, .t1sRead c), (0x4D, .t1sCtrl c), (0x50, .nmRequestSleep c),
      (0x51, .nmStayAwake c), (0x52, .nmStatus c), (0x58, .accStatus c), (0x59, .accChallenge c),
      (0x5A, .accEnrol c), (0x5B, .accDealerCode c), (0x5C, .accRevoke c), (0x5D, .accSessionEnd c),
      (0x61, .appletStart c), (0x62, .appletStop c), (0x63, .appletStatus c), (0x64, .appletPrecede c),
      (0x65, .appletUnload c), (0x70, .faultStatus c), (0x71, .faultCapture c), (0x72, .faultClear c),
      (0x73, .faultNotify c), (0x74, .faultTest c),
      (0x7A, .holdConfirm c), (0x7B, .blockReset c), (0x7E, .peek c), (0x7F, .poke c)],
    s.arrivalStatus p.1 c = some st → refuses p.1 p.2 st) ∧
    ((∀ o ∈ s.eng.outst, isWatch o = false) → s.pwr.entry = none →
      ∀ p ∈ [(0x33, Instr.watchInputs c), (0x78, .enterPark c), (0x79, .enterCellar c)],
        s.arrivalStatus p.1 c = some st → refuses p.1 p.2 st) ∧
    (s.pwr.fuseFailed = false → c.payload ≠ [] →
      (∀ p ∈ [(0x41, Instr.canRead c), (0x42, .canCtrl c)], hasCan s.var (pf c 2 0 2) = false → refuses p.1 p.2 0x23) ∧
      (hasCan s.var (pf c 2 30 2) = false → refuses 0x40 (.canTx c) 0x23) ∧
      ∀ p ∈ [(0x43, Instr.linTx c), (0x44, .linRead c), (0x45, .linSched c), (0x46, .linCtrl c)],
        pf c 2 0 3 < 6 → hasLin s.var (pf c 2 0 3) = false → refuses p.1 p.2 0x23)

/-- Words of XK32 written out from the formats and opcodes of R400, R401 and R409 decode to their instructions, and a
word with a reserved field or an undefined opcode to none. -/
def Obligations.XkWordsDecode : Prop :=
  decodeXk 0x00C88000 = some (.add 3 2 2) ∧ decodeXk 0x0048C001 = some (.sub 1 2 3) ∧
  decodeXk 0x04590003 = some (.sltu 1 6 4) ∧ decodeXk 0x09BFFFFF = some (.addi 6 15 0x3FFFF) ∧
  decodeXk 0x30419ABC = none ∧ decodeXk 0x30409ABC = some (.lui 1 0x9ABC) ∧
  decodeXk 0x40598004 = some (.ldw 1 6 3 4) ∧ decodeXk 0x543B7FFC = some (.stw 0 14 6 0x7FFC) ∧
  decodeXk 0x82400005 = some (.bz 9 5) ∧ decodeXk 0x8BFFFFFF = some (.call 0x3FFFFFF) ∧
  decodeXk 0x94000000 = some .ret ∧ decodeXk 0xA0000010 = some (.svc 0x10) ∧ decodeXk 0xA4000000 = some .yield ∧
  decodeXk 0xF0D1800F = some (.qmul 3 4 6 15) ∧ decodeXk 0xF4D00000 = none ∧ decodeXk 0xFC000200 = some .aenc ∧
  decodeXk 0xFFFFFFFF = none ∧ decodeXk 0x18000020 = none

/-- Decoding the word of an instruction of the applet core gives the instruction back, with every operand at every value
that the encoding admits (R400, R401, R409). -/
def Obligations.DecodeEncodeXk : Prop :=
  ∀ (i : Instr) (w : Word), wellFormed i = true → encodeXk i = some w → decodeXk w = some i

/-- The canonical form of the memory (addresses strictly rising, nothing listed that reads as an unlisted byte) and
g0 = 0 hold after every instruction of the applet core from every state in which they hold (R12, R392): whatever the
instruction does on the bus, and whichever fault or reset it causes. -/
def Obligations.XkStepKeepsMemoryFormAndG0 : Prop :=
  ∀ (s t : State) (i : Instr) (w : Word) (r : List Instr), s.pending = i :: r → encodeXk i = some w →
    memWf s.mem.bytes = true → s.core.g[0] = 0 → step s = .next t →
    memWf t.mem.bytes = true ∧ t.core.g[0] = 0 ∧ t.pending = r
end

