-- ==== Sys2Proof/Laws/State.lean ====
section
/-! SUPPORT. One lemma per field of State for each update of a unit or a part of the state, and the reads
of a unit after an update of one. -/

namespace Sys2Proof.Machine

/-! ### Tables of like units -/

@[simp] theorem vget_vupd_self {α : Type} {n : Nat} [Inhabited α] (v : Vector α n) (i : Nat) (f : α → α)
    (h : i < n) : vget (vupd v i f) i = f (vget v i) := by
  simp [vget, vupd, vput, h]

@[simp] theorem vget_vupd_ne {α : Type} {n : Nat} [Inhabited α] (v : Vector α n) (i j : Nat) (f : α → α)
    (h : i ≠ j) : vget (vupd v i f) j = vget v j := by
  simp [vget, vupd, vput, h]

theorem vget_vupd {α : Type} {n : Nat} [Inhabited α] (v : Vector α n) (i j : Nat) (f : α → α) :
    vget (vupd v i f) j = if i = j ∧ i < n then f (vget v j) else vget v j := by
  by_cases h : i = j
  · subst h
    by_cases hn : i < n
    · simp [hn]
    · simp [vget, vupd, vput, hn]
  · simp [h]

/-! ### State.updLoad -/

@[simp] theorem State.updLoad_pending (s : State) (n : Nat) (f : LoadCh → LoadCh) : (s.updLoad n f).pending = s.pending := rfl
@[simp] theorem State.updLoad_clk (s : State) (n : Nat) (f : LoadCh → LoadCh) : (s.updLoad n f).clk = s.clk := rfl
@[simp] theorem State.updLoad_supply (s : State) (n : Nat) (f : LoadCh → LoadCh) : (s.updLoad n f).supply = s.supply := rfl
@[simp] theorem State.updLoad_pwr (s : State) (n : Nat) (f : LoadCh → LoadCh) : (s.updLoad n f).pwr = s.pwr := rfl
@[simp] theorem State.updLoad_link (s : State) (n : Nat) (f : LoadCh → LoadCh) : (s.updLoad n f).link = s.link := rfl
@[simp] theorem State.updLoad_eng (s : State) (n : Nat) (f : LoadCh → LoadCh) : (s.updLoad n f).eng = s.eng := rfl
@[simp] theorem State.updLoad_vat (s : State) (n : Nat) (f : LoadCh → LoadCh) : (s.updLoad n f).vat = s.vat := rfl
@[simp] theorem State.updLoad_live (s : State) (n : Nat) (f : LoadCh → LoadCh) : (s.updLoad n f).live = s.live := rfl
@[simp] theorem State.updLoad_regs (s : State) (n : Nat) (f : LoadCh → LoadCh) : (s.updLoad n f).regs = s.regs := rfl
@[simp] theorem State.updLoad_svc (s : State) (n : Nat) (f : LoadCh → LoadCh) : (s.updLoad n f).svc = s.svc := rfl
@[simp] theorem State.updLoad_pins (s : State) (n : Nat) (f : LoadCh → LoadCh) : (s.updLoad n f).pins = s.pins := rfl
@[simp] theorem State.updLoad_therm (s : State) (n : Nat) (f : LoadCh → LoadCh) : (s.updLoad n f).therm = s.therm := rfl
@[simp] theorem State.updLoad_valve (s : State) (n : Nat) (f : LoadCh → LoadCh) : (s.updLoad n f).valve = s.valve := rfl
@[simp] theorem State.updLoad_port (s : State) (n : Nat) (f : LoadCh → LoadCh) : (s.updLoad n f).port = s.port := rfl
@[simp] theorem State.updLoad_contact (s : State) (n : Nat) (f : LoadCh → LoadCh) : (s.updLoad n f).contact = s.contact := rfl
@[simp] theorem State.updLoad_field (s : State) (n : Nat) (f : LoadCh → LoadCh) : (s.updLoad n f).field = s.field := rfl
@[simp] theorem State.updLoad_can (s : State) (n : Nat) (f : LoadCh → LoadCh) : (s.updLoad n f).can = s.can := rfl
@[simp] theorem State.updLoad_tickTsc (s : State) (n : Nat) (f : LoadCh → LoadCh) : (s.updLoad n f).tickTsc = s.tickTsc := rfl
@[simp] theorem State.updLoad_lin (s : State) (n : Nat) (f : LoadCh → LoadCh) : (s.updLoad n f).lin = s.lin := rfl
@[simp] theorem State.updLoad_t1s (s : State) (n : Nat) (f : LoadCh → LoadCh) : (s.updLoad n f).t1s = s.t1s := rfl
@[simp] theorem State.updLoad_tim (s : State) (n : Nat) (f : LoadCh → LoadCh) : (s.updLoad n f).tim = s.tim := rfl
@[simp] theorem State.updLoad_adj (s : State) (n : Nat) (f : LoadCh → LoadCh) : (s.updLoad n f).adj = s.adj := rfl
@[simp] theorem State.updLoad_nm (s : State) (n : Nat) (f : LoadCh → LoadCh) : (s.updLoad n f).nm = s.nm := rfl
@[simp] theorem State.updLoad_acc (s : State) (n : Nat) (f : LoadCh → LoadCh) : (s.updLoad n f).acc = s.acc := rfl
@[simp] theorem State.updLoad_accEnd (s : State) (n : Nat) (f : LoadCh → LoadCh) : (s.updLoad n f).accEnd = s.accEnd := rfl
@[simp] theorem State.updLoad_app (s : State) (n : Nat) (f : LoadCh → LoadCh) : (s.updLoad n f).app = s.app := rfl
@[simp] theorem State.updLoad_appTodo (s : State) (n : Nat) (f : LoadCh → LoadCh) : (s.updLoad n f).appTodo = s.appTodo := rfl
@[simp] theorem State.updLoad_core (s : State) (n : Nat) (f : LoadCh → LoadCh) : (s.updLoad n f).core = s.core := rfl
@[simp] theorem State.updLoad_win (s : State) (n : Nat) (f : LoadCh → LoadCh) : (s.updLoad n f).win = s.win := rfl
@[simp] theorem State.updLoad_flt (s : State) (n : Nat) (f : LoadCh → LoadCh) : (s.updLoad n f).flt = s.flt := rfl
@[simp] theorem State.updLoad_mem (s : State) (n : Nat) (f : LoadCh → LoadCh) : (s.updLoad n f).mem = s.mem := rfl
@[simp] theorem State.updLoad_feat (s : State) (n : Nat) (f : LoadCh → LoadCh) : (s.updLoad n f).feat = s.feat := rfl
@[simp] theorem State.updLoad_latches (s : State) (n : Nat) (f : LoadCh → LoadCh) : (s.updLoad n f).latches = s.latches := rfl
@[simp] theorem State.updLoad_vatCfg (s : State) (n : Nat) (f : LoadCh → LoadCh) : (s.updLoad n f).vatCfg = s.vatCfg := rfl
@[simp] theorem State.updLoad_busOut (s : State) (n : Nat) (f : LoadCh → LoadCh) : (s.updLoad n f).busOut = s.busOut := rfl
@[simp] theorem State.updLoad_busEnd (s : State) (n : Nat) (f : LoadCh → LoadCh) : (s.updLoad n f).busEnd = s.busEnd := rfl
@[simp] theorem State.updLoad_evSeq (s : State) (n : Nat) (f : LoadCh → LoadCh) : (s.updLoad n f).evSeq = s.evSeq := rfl
@[simp] theorem State.updLoad_freeCtr (s : State) (n : Nat) (f : LoadCh → LoadCh) : (s.updLoad n f).freeCtr = s.freeCtr := rfl

/-! ### State.updValve -/

@[simp] theorem State.updValve_pending (s : State) (n : Nat) (f : Valve → Valve) : (s.updValve n f).pending = s.pending := rfl
@[simp] theorem State.updValve_clk (s : State) (n : Nat) (f : Valve → Valve) : (s.updValve n f).clk = s.clk := rfl
@[simp] theorem State.updValve_supply (s : State) (n : Nat) (f : Valve → Valve) : (s.updValve n f).supply = s.supply := rfl
@[simp] theorem State.updValve_pwr (s : State) (n : Nat) (f : Valve → Valve) : (s.updValve n f).pwr = s.pwr := rfl
@[simp] theorem State.updValve_link (s : State) (n : Nat) (f : Valve → Valve) : (s.updValve n f).link = s.link := rfl
@[simp] theorem State.updValve_eng (s : State) (n : Nat) (f : Valve → Valve) : (s.updValve n f).eng = s.eng := rfl
@[simp] theorem State.updValve_vat (s : State) (n : Nat) (f : Valve → Valve) : (s.updValve n f).vat = s.vat := rfl
@[simp] theorem State.updValve_live (s : State) (n : Nat) (f : Valve → Valve) : (s.updValve n f).live = s.live := rfl
@[simp] theorem State.updValve_regs (s : State) (n : Nat) (f : Valve → Valve) : (s.updValve n f).regs = s.regs := rfl
@[simp] theorem State.updValve_svc (s : State) (n : Nat) (f : Valve → Valve) : (s.updValve n f).svc = s.svc := rfl
@[simp] theorem State.updValve_load (s : State) (n : Nat) (f : Valve → Valve) : (s.updValve n f).load = s.load := rfl
@[simp] theorem State.updValve_pins (s : State) (n : Nat) (f : Valve → Valve) : (s.updValve n f).pins = s.pins := rfl
@[simp] theorem State.updValve_therm (s : State) (n : Nat) (f : Valve → Valve) : (s.updValve n f).therm = s.therm := rfl
@[simp] theorem State.updValve_port (s : State) (n : Nat) (f : Valve → Valve) : (s.updValve n f).port = s.port := rfl
@[simp] theorem State.updValve_contact (s : State) (n : Nat) (f : Valve → Valve) : (s.updValve n f).contact = s.contact := rfl
@[simp] theorem State.updValve_field (s : State) (n : Nat) (f : Valve → Valve) : (s.updValve n f).field = s.field := rfl
@[simp] theorem State.updValve_can (s : State) (n : Nat) (f : Valve → Valve) : (s.updValve n f).can = s.can := rfl
@[simp] theorem State.updValve_tickTsc (s : State) (n : Nat) (f : Valve → Valve) : (s.updValve n f).tickTsc = s.tickTsc := rfl
@[simp] theorem State.updValve_lin (s : State) (n : Nat) (f : Valve → Valve) : (s.updValve n f).lin = s.lin := rfl
@[simp] theorem State.updValve_t1s (s : State) (n : Nat) (f : Valve → Valve) : (s.updValve n f).t1s = s.t1s := rfl
@[simp] theorem State.updValve_tim (s : State) (n : Nat) (f : Valve → Valve) : (s.updValve n f).tim = s.tim := rfl
@[simp] theorem State.updValve_adj (s : State) (n : Nat) (f : Valve → Valve) : (s.updValve n f).adj = s.adj := rfl
@[simp] theorem State.updValve_nm (s : State) (n : Nat) (f : Valve → Valve) : (s.updValve n f).nm = s.nm := rfl
@[simp] theorem State.updValve_acc (s : State) (n : Nat) (f : Valve → Valve) : (s.updValve n f).acc = s.acc := rfl
@[simp] theorem State.updValve_accEnd (s : State) (n : Nat) (f : Valve → Valve) : (s.updValve n f).accEnd = s.accEnd := rfl
@[simp] theorem State.updValve_app (s : State) (n : Nat) (f : Valve → Valve) : (s.updValve n f).app = s.app := rfl
@[simp] theorem State.updValve_appTodo (s : State) (n : Nat) (f : Valve → Valve) : (s.updValve n f).appTodo = s.appTodo := rfl
@[simp] theorem State.updValve_core (s : State) (n : Nat) (f : Valve → Valve) : (s.updValve n f).core = s.core := rfl
@[simp] theorem State.updValve_win (s : State) (n : Nat) (f : Valve → Valve) : (s.updValve n f).win = s.win := rfl
@[simp] theorem State.updValve_flt (s : State) (n : Nat) (f : Valve → Valve) : (s.updValve n f).flt = s.flt := rfl
@[simp] theorem State.updValve_mem (s : State) (n : Nat) (f : Valve → Valve) : (s.updValve n f).mem = s.mem := rfl
@[simp] theorem State.updValve_feat (s : State) (n : Nat) (f : Valve → Valve) : (s.updValve n f).feat = s.feat := rfl
@[simp] theorem State.updValve_latches (s : State) (n : Nat) (f : Valve → Valve) : (s.updValve n f).latches = s.latches := rfl
@[simp] theorem State.updValve_vatCfg (s : State) (n : Nat) (f : Valve → Valve) : (s.updValve n f).vatCfg = s.vatCfg := rfl
@[simp] theorem State.updValve_busOut (s : State) (n : Nat) (f : Valve → Valve) : (s.updValve n f).busOut = s.busOut := rfl
@[simp] theorem State.updValve_busEnd (s : State) (n : Nat) (f : Valve → Valve) : (s.updValve n f).busEnd = s.busEnd := rfl
@[simp] theorem State.updValve_evSeq (s : State) (n : Nat) (f : Valve → Valve) : (s.updValve n f).evSeq = s.evSeq := rfl
@[simp] theorem State.updValve_freeCtr (s : State) (n : Nat) (f : Valve → Valve) : (s.updValve n f).freeCtr = s.freeCtr := rfl

/-! ### State.updBank -/

@[simp] theorem State.updBank_pending (s : State) (n : Nat) (f : Bank → Bank) : (s.updBank n f).pending = s.pending := rfl
@[simp] theorem State.updBank_clk (s : State) (n : Nat) (f : Bank → Bank) : (s.updBank n f).clk = s.clk := rfl
@[simp] theorem State.updBank_supply (s : State) (n : Nat) (f : Bank → Bank) : (s.updBank n f).supply = s.supply := rfl
@[simp] theorem State.updBank_pwr (s : State) (n : Nat) (f : Bank → Bank) : (s.updBank n f).pwr = s.pwr := rfl
@[simp] theorem State.updBank_link (s : State) (n : Nat) (f : Bank → Bank) : (s.updBank n f).link = s.link := rfl
@[simp] theorem State.updBank_eng (s : State) (n : Nat) (f : Bank → Bank) : (s.updBank n f).eng = s.eng := rfl
@[simp] theorem State.updBank_vat (s : State) (n : Nat) (f : Bank → Bank) : (s.updBank n f).vat = s.vat := rfl
@[simp] theorem State.updBank_live (s : State) (n : Nat) (f : Bank → Bank) : (s.updBank n f).live = s.live := rfl
@[simp] theorem State.updBank_regs (s : State) (n : Nat) (f : Bank → Bank) : (s.updBank n f).regs = s.regs := rfl
@[simp] theorem State.updBank_svc (s : State) (n : Nat) (f : Bank → Bank) : (s.updBank n f).svc = s.svc := rfl
@[simp] theorem State.updBank_load (s : State) (n : Nat) (f : Bank → Bank) : (s.updBank n f).load = s.load := rfl
@[simp] theorem State.updBank_pins (s : State) (n : Nat) (f : Bank → Bank) : (s.updBank n f).pins = s.pins := rfl
@[simp] theorem State.updBank_therm (s : State) (n : Nat) (f : Bank → Bank) : (s.updBank n f).therm = s.therm := rfl
@[simp] theorem State.updBank_port (s : State) (n : Nat) (f : Bank → Bank) : (s.updBank n f).port = s.port := rfl
@[simp] theorem State.updBank_contact (s : State) (n : Nat) (f : Bank → Bank) : (s.updBank n f).contact = s.contact := rfl
@[simp] theorem State.updBank_field (s : State) (n : Nat) (f : Bank → Bank) : (s.updBank n f).field = s.field := rfl
@[simp] theorem State.updBank_can (s : State) (n : Nat) (f : Bank → Bank) : (s.updBank n f).can = s.can := rfl
@[simp] theorem State.updBank_tickTsc (s : State) (n : Nat) (f : Bank → Bank) : (s.updBank n f).tickTsc = s.tickTsc := rfl
@[simp] theorem State.updBank_lin (s : State) (n : Nat) (f : Bank → Bank) : (s.updBank n f).lin = s.lin := rfl
@[simp] theorem State.updBank_t1s (s : State) (n : Nat) (f : Bank → Bank) : (s.updBank n f).t1s = s.t1s := rfl
@[simp] theorem State.updBank_tim (s : State) (n : Nat) (f : Bank → Bank) : (s.updBank n f).tim = s.tim := rfl
@[simp] theorem State.updBank_adj (s : State) (n : Nat) (f : Bank → Bank) : (s.updBank n f).adj = s.adj := rfl
@[simp] theorem State.updBank_nm (s : State) (n : Nat) (f : Bank → Bank) : (s.updBank n f).nm = s.nm := rfl
@[simp] theorem State.updBank_acc (s : State) (n : Nat) (f : Bank → Bank) : (s.updBank n f).acc = s.acc := rfl
@[simp] theorem State.updBank_accEnd (s : State) (n : Nat) (f : Bank → Bank) : (s.updBank n f).accEnd = s.accEnd := rfl
@[simp] theorem State.updBank_app (s : State) (n : Nat) (f : Bank → Bank) : (s.updBank n f).app = s.app := rfl
@[simp] theorem State.updBank_appTodo (s : State) (n : Nat) (f : Bank → Bank) : (s.updBank n f).appTodo = s.appTodo := rfl
@[simp] theorem State.updBank_core (s : State) (n : Nat) (f : Bank → Bank) : (s.updBank n f).core = s.core := rfl
@[simp] theorem State.updBank_win (s : State) (n : Nat) (f : Bank → Bank) : (s.updBank n f).win = s.win := rfl
@[simp] theorem State.updBank_flt (s : State) (n : Nat) (f : Bank → Bank) : (s.updBank n f).flt = s.flt := rfl
@[simp] theorem State.updBank_mem (s : State) (n : Nat) (f : Bank → Bank) : (s.updBank n f).mem = s.mem := rfl
@[simp] theorem State.updBank_feat (s : State) (n : Nat) (f : Bank → Bank) : (s.updBank n f).feat = s.feat := rfl
@[simp] theorem State.updBank_latches (s : State) (n : Nat) (f : Bank → Bank) : (s.updBank n f).latches = s.latches := rfl
@[simp] theorem State.updBank_vatCfg (s : State) (n : Nat) (f : Bank → Bank) : (s.updBank n f).vatCfg = s.vatCfg := rfl
@[simp] theorem State.updBank_busOut (s : State) (n : Nat) (f : Bank → Bank) : (s.updBank n f).busOut = s.busOut := rfl
@[simp] theorem State.updBank_busEnd (s : State) (n : Nat) (f : Bank → Bank) : (s.updBank n f).busEnd = s.busEnd := rfl
@[simp] theorem State.updBank_evSeq (s : State) (n : Nat) (f : Bank → Bank) : (s.updBank n f).evSeq = s.evSeq := rfl
@[simp] theorem State.updBank_freeCtr (s : State) (n : Nat) (f : Bank → Bank) : (s.updBank n f).freeCtr = s.freeCtr := rfl

/-! ### State.updPort -/

@[simp] theorem State.updPort_pending (s : State) (n : Nat) (f : Port → Port) : (s.updPort n f).pending = s.pending := rfl
@[simp] theorem State.updPort_clk (s : State) (n : Nat) (f : Port → Port) : (s.updPort n f).clk = s.clk := rfl
@[simp] theorem State.updPort_supply (s : State) (n : Nat) (f : Port → Port) : (s.updPort n f).supply = s.supply := rfl
@[simp] theorem State.updPort_pwr (s : State) (n : Nat) (f : Port → Port) : (s.updPort n f).pwr = s.pwr := rfl
@[simp] theorem State.updPort_link (s : State) (n : Nat) (f : Port → Port) : (s.updPort n f).link = s.link := rfl
@[simp] theorem State.updPort_eng (s : State) (n : Nat) (f : Port → Port) : (s.updPort n f).eng = s.eng := rfl
@[simp] theorem State.updPort_vat (s : State) (n : Nat) (f : Port → Port) : (s.updPort n f).vat = s.vat := rfl
@[simp] theorem State.updPort_live (s : State) (n : Nat) (f : Port → Port) : (s.updPort n f).live = s.live := rfl
@[simp] theorem State.updPort_regs (s : State) (n : Nat) (f : Port → Port) : (s.updPort n f).regs = s.regs := rfl
@[simp] theorem State.updPort_svc (s : State) (n : Nat) (f : Port → Port) : (s.updPort n f).svc = s.svc := rfl
@[simp] theorem State.updPort_load (s : State) (n : Nat) (f : Port → Port) : (s.updPort n f).load = s.load := rfl
@[simp] theorem State.updPort_pins (s : State) (n : Nat) (f : Port → Port) : (s.updPort n f).pins = s.pins := rfl
@[simp] theorem State.updPort_therm (s : State) (n : Nat) (f : Port → Port) : (s.updPort n f).therm = s.therm := rfl
@[simp] theorem State.updPort_valve (s : State) (n : Nat) (f : Port → Port) : (s.updPort n f).valve = s.valve := rfl
@[simp] theorem State.updPort_contact (s : State) (n : Nat) (f : Port → Port) : (s.updPort n f).contact = s.contact := rfl
@[simp] theorem State.updPort_field (s : State) (n : Nat) (f : Port → Port) : (s.updPort n f).field = s.field := rfl
@[simp] theorem State.updPort_can (s : State) (n : Nat) (f : Port → Port) : (s.updPort n f).can = s.can := rfl
@[simp] theorem State.updPort_tickTsc (s : State) (n : Nat) (f : Port → Port) : (s.updPort n f).tickTsc = s.tickTsc := rfl
@[simp] theorem State.updPort_lin (s : State) (n : Nat) (f : Port → Port) : (s.updPort n f).lin = s.lin := rfl
@[simp] theorem State.updPort_t1s (s : State) (n : Nat) (f : Port → Port) : (s.updPort n f).t1s = s.t1s := rfl
@[simp] theorem State.updPort_tim (s : State) (n : Nat) (f : Port → Port) : (s.updPort n f).tim = s.tim := rfl
@[simp] theorem State.updPort_adj (s : State) (n : Nat) (f : Port → Port) : (s.updPort n f).adj = s.adj := rfl
@[simp] theorem State.updPort_nm (s : State) (n : Nat) (f : Port → Port) : (s.updPort n f).nm = s.nm := rfl
@[simp] theorem State.updPort_acc (s : State) (n : Nat) (f : Port → Port) : (s.updPort n f).acc = s.acc := rfl
@[simp] theorem State.updPort_accEnd (s : State) (n : Nat) (f : Port → Port) : (s.updPort n f).accEnd = s.accEnd := rfl
@[simp] theorem State.updPort_app (s : State) (n : Nat) (f : Port → Port) : (s.updPort n f).app = s.app := rfl
@[simp] theorem State.updPort_appTodo (s : State) (n : Nat) (f : Port → Port) : (s.updPort n f).appTodo = s.appTodo := rfl
@[simp] theorem State.updPort_core (s : State) (n : Nat) (f : Port → Port) : (s.updPort n f).core = s.core := rfl
@[simp] theorem State.updPort_win (s : State) (n : Nat) (f : Port → Port) : (s.updPort n f).win = s.win := rfl
@[simp] theorem State.updPort_flt (s : State) (n : Nat) (f : Port → Port) : (s.updPort n f).flt = s.flt := rfl
@[simp] theorem State.updPort_mem (s : State) (n : Nat) (f : Port → Port) : (s.updPort n f).mem = s.mem := rfl
@[simp] theorem State.updPort_feat (s : State) (n : Nat) (f : Port → Port) : (s.updPort n f).feat = s.feat := rfl
@[simp] theorem State.updPort_latches (s : State) (n : Nat) (f : Port → Port) : (s.updPort n f).latches = s.latches := rfl
@[simp] theorem State.updPort_vatCfg (s : State) (n : Nat) (f : Port → Port) : (s.updPort n f).vatCfg = s.vatCfg := rfl
@[simp] theorem State.updPort_busOut (s : State) (n : Nat) (f : Port → Port) : (s.updPort n f).busOut = s.busOut := rfl
@[simp] theorem State.updPort_busEnd (s : State) (n : Nat) (f : Port → Port) : (s.updPort n f).busEnd = s.busEnd := rfl
@[simp] theorem State.updPort_evSeq (s : State) (n : Nat) (f : Port → Port) : (s.updPort n f).evSeq = s.evSeq := rfl
@[simp] theorem State.updPort_freeCtr (s : State) (n : Nat) (f : Port → Port) : (s.updPort n f).freeCtr = s.freeCtr := rfl

/-! ### State.updField -/

@[simp] theorem State.updField_pending (s : State) (f : Field → Field) : (s.updField f).pending = s.pending := rfl
@[simp] theorem State.updField_clk (s : State) (f : Field → Field) : (s.updField f).clk = s.clk := rfl
@[simp] theorem State.updField_supply (s : State) (f : Field → Field) : (s.updField f).supply = s.supply := rfl
@[simp] theorem State.updField_pwr (s : State) (f : Field → Field) : (s.updField f).pwr = s.pwr := rfl
@[simp] theorem State.updField_link (s : State) (f : Field → Field) : (s.updField f).link = s.link := rfl
@[simp] theorem State.updField_eng (s : State) (f : Field → Field) : (s.updField f).eng = s.eng := rfl
@[simp] theorem State.updField_vat (s : State) (f : Field → Field) : (s.updField f).vat = s.vat := rfl
@[simp] theorem State.updField_live (s : State) (f : Field → Field) : (s.updField f).live = s.live := rfl
@[simp] theorem State.updField_regs (s : State) (f : Field → Field) : (s.updField f).regs = s.regs := rfl
@[simp] theorem State.updField_svc (s : State) (f : Field → Field) : (s.updField f).svc = s.svc := rfl
@[simp] theorem State.updField_load (s : State) (f : Field → Field) : (s.updField f).load = s.load := rfl
@[simp] theorem State.updField_pins (s : State) (f : Field → Field) : (s.updField f).pins = s.pins := rfl
@[simp] theorem State.updField_therm (s : State) (f : Field → Field) : (s.updField f).therm = s.therm := rfl
@[simp] theorem State.updField_valve (s : State) (f : Field → Field) : (s.updField f).valve = s.valve := rfl
@[simp] theorem State.updField_port (s : State) (f : Field → Field) : (s.updField f).port = s.port := rfl
@[simp] theorem State.updField_contact (s : State) (f : Field → Field) : (s.updField f).contact = s.contact := rfl
@[simp] theorem State.updField_can (s : State) (f : Field → Field) : (s.updField f).can = s.can := rfl
@[simp] theorem State.updField_tickTsc (s : State) (f : Field → Field) : (s.updField f).tickTsc = s.tickTsc := rfl
@[simp] theorem State.updField_lin (s : State) (f : Field → Field) : (s.updField f).lin = s.lin := rfl
@[simp] theorem State.updField_t1s (s : State) (f : Field → Field) : (s.updField f).t1s = s.t1s := rfl
@[simp] theorem State.updField_tim (s : State) (f : Field → Field) : (s.updField f).tim = s.tim := rfl
@[simp] theorem State.updField_adj (s : State) (f : Field → Field) : (s.updField f).adj = s.adj := rfl
@[simp] theorem State.updField_nm (s : State) (f : Field → Field) : (s.updField f).nm = s.nm := rfl
@[simp] theorem State.updField_acc (s : State) (f : Field → Field) : (s.updField f).acc = s.acc := rfl
@[simp] theorem State.updField_accEnd (s : State) (f : Field → Field) : (s.updField f).accEnd = s.accEnd := rfl
@[simp] theorem State.updField_app (s : State) (f : Field → Field) : (s.updField f).app = s.app := rfl
@[simp] theorem State.updField_appTodo (s : State) (f : Field → Field) : (s.updField f).appTodo = s.appTodo := rfl
@[simp] theorem State.updField_core (s : State) (f : Field → Field) : (s.updField f).core = s.core := rfl
@[simp] theorem State.updField_win (s : State) (f : Field → Field) : (s.updField f).win = s.win := rfl
@[simp] theorem State.updField_flt (s : State) (f : Field → Field) : (s.updField f).flt = s.flt := rfl
@[simp] theorem State.updField_mem (s : State) (f : Field → Field) : (s.updField f).mem = s.mem := rfl
@[simp] theorem State.updField_feat (s : State) (f : Field → Field) : (s.updField f).feat = s.feat := rfl
@[simp] theorem State.updField_latches (s : State) (f : Field → Field) : (s.updField f).latches = s.latches := rfl
@[simp] theorem State.updField_vatCfg (s : State) (f : Field → Field) : (s.updField f).vatCfg = s.vatCfg := rfl
@[simp] theorem State.updField_busOut (s : State) (f : Field → Field) : (s.updField f).busOut = s.busOut := rfl
@[simp] theorem State.updField_busEnd (s : State) (f : Field → Field) : (s.updField f).busEnd = s.busEnd := rfl
@[simp] theorem State.updField_evSeq (s : State) (f : Field → Field) : (s.updField f).evSeq = s.evSeq := rfl
@[simp] theorem State.updField_freeCtr (s : State) (f : Field → Field) : (s.updField f).freeCtr = s.freeCtr := rfl

/-! ### State.updFio -/

@[simp] theorem State.updFio_pending (s : State) (n : Nat) (f : Fio → Fio) : (s.updFio n f).pending = s.pending := rfl
@[simp] theorem State.updFio_clk (s : State) (n : Nat) (f : Fio → Fio) : (s.updFio n f).clk = s.clk := rfl
@[simp] theorem State.updFio_supply (s : State) (n : Nat) (f : Fio → Fio) : (s.updFio n f).supply = s.supply := rfl
@[simp] theorem State.updFio_pwr (s : State) (n : Nat) (f : Fio → Fio) : (s.updFio n f).pwr = s.pwr := rfl
@[simp] theorem State.updFio_link (s : State) (n : Nat) (f : Fio → Fio) : (s.updFio n f).link = s.link := rfl
@[simp] theorem State.updFio_eng (s : State) (n : Nat) (f : Fio → Fio) : (s.updFio n f).eng = s.eng := rfl
@[simp] theorem State.updFio_vat (s : State) (n : Nat) (f : Fio → Fio) : (s.updFio n f).vat = s.vat := rfl
@[simp] theorem State.updFio_live (s : State) (n : Nat) (f : Fio → Fio) : (s.updFio n f).live = s.live := rfl
@[simp] theorem State.updFio_regs (s : State) (n : Nat) (f : Fio → Fio) : (s.updFio n f).regs = s.regs := rfl
@[simp] theorem State.updFio_svc (s : State) (n : Nat) (f : Fio → Fio) : (s.updFio n f).svc = s.svc := rfl
@[simp] theorem State.updFio_load (s : State) (n : Nat) (f : Fio → Fio) : (s.updFio n f).load = s.load := rfl
@[simp] theorem State.updFio_pins (s : State) (n : Nat) (f : Fio → Fio) : (s.updFio n f).pins = s.pins := rfl
@[simp] theorem State.updFio_therm (s : State) (n : Nat) (f : Fio → Fio) : (s.updFio n f).therm = s.therm := rfl
@[simp] theorem State.updFio_valve (s : State) (n : Nat) (f : Fio → Fio) : (s.updFio n f).valve = s.valve := rfl
@[simp] theorem State.updFio_port (s : State) (n : Nat) (f : Fio → Fio) : (s.updFio n f).port = s.port := rfl
@[simp] theorem State.updFio_contact (s : State) (n : Nat) (f : Fio → Fio) : (s.updFio n f).contact = s.contact := rfl
@[simp] theorem State.updFio_can (s : State) (n : Nat) (f : Fio → Fio) : (s.updFio n f).can = s.can := rfl
@[simp] theorem State.updFio_tickTsc (s : State) (n : Nat) (f : Fio → Fio) : (s.updFio n f).tickTsc = s.tickTsc := rfl
@[simp] theorem State.updFio_lin (s : State) (n : Nat) (f : Fio → Fio) : (s.updFio n f).lin = s.lin := rfl
@[simp] theorem State.updFio_t1s (s : State) (n : Nat) (f : Fio → Fio) : (s.updFio n f).t1s = s.t1s := rfl
@[simp] theorem State.updFio_tim (s : State) (n : Nat) (f : Fio → Fio) : (s.updFio n f).tim = s.tim := rfl
@[simp] theorem State.updFio_adj (s : State) (n : Nat) (f : Fio → Fio) : (s.updFio n f).adj = s.adj := rfl
@[simp] theorem State.updFio_nm (s : State) (n : Nat) (f : Fio → Fio) : (s.updFio n f).nm = s.nm := rfl
@[simp] theorem State.updFio_acc (s : State) (n : Nat) (f : Fio → Fio) : (s.updFio n f).acc = s.acc := rfl
@[simp] theorem State.updFio_accEnd (s : State) (n : Nat) (f : Fio → Fio) : (s.updFio n f).accEnd = s.accEnd := rfl
@[simp] theorem State.updFio_app (s : State) (n : Nat) (f : Fio → Fio) : (s.updFio n f).app = s.app := rfl
@[simp] theorem State.updFio_appTodo (s : State) (n : Nat) (f : Fio → Fio) : (s.updFio n f).appTodo = s.appTodo := rfl
@[simp] theorem State.updFio_core (s : State) (n : Nat) (f : Fio → Fio) : (s.updFio n f).core = s.core := rfl
@[simp] theorem State.updFio_win (s : State) (n : Nat) (f : Fio → Fio) : (s.updFio n f).win = s.win := rfl
@[simp] theorem State.updFio_flt (s : State) (n : Nat) (f : Fio → Fio) : (s.updFio n f).flt = s.flt := rfl
@[simp] theorem State.updFio_mem (s : State) (n : Nat) (f : Fio → Fio) : (s.updFio n f).mem = s.mem := rfl
@[simp] theorem State.updFio_feat (s : State) (n : Nat) (f : Fio → Fio) : (s.updFio n f).feat = s.feat := rfl
@[simp] theorem State.updFio_latches (s : State) (n : Nat) (f : Fio → Fio) : (s.updFio n f).latches = s.latches := rfl
@[simp] theorem State.updFio_vatCfg (s : State) (n : Nat) (f : Fio → Fio) : (s.updFio n f).vatCfg = s.vatCfg := rfl
@[simp] theorem State.updFio_busOut (s : State) (n : Nat) (f : Fio → Fio) : (s.updFio n f).busOut = s.busOut := rfl
@[simp] theorem State.updFio_busEnd (s : State) (n : Nat) (f : Fio → Fio) : (s.updFio n f).busEnd = s.busEnd := rfl
@[simp] theorem State.updFio_evSeq (s : State) (n : Nat) (f : Fio → Fio) : (s.updFio n f).evSeq = s.evSeq := rfl
@[simp] theorem State.updFio_freeCtr (s : State) (n : Nat) (f : Fio → Fio) : (s.updFio n f).freeCtr = s.freeCtr := rfl

/-! ### State.updCan -/

@[simp] theorem State.updCan_pending (s : State) (n : Nat) (f : Can → Can) : (s.updCan n f).pending = s.pending := rfl
@[simp] theorem State.updCan_clk (s : State) (n : Nat) (f : Can → Can) : (s.updCan n f).clk = s.clk := rfl
@[simp] theorem State.updCan_supply (s : State) (n : Nat) (f : Can → Can) : (s.updCan n f).supply = s.supply := rfl
@[simp] theorem State.updCan_pwr (s : State) (n : Nat) (f : Can → Can) : (s.updCan n f).pwr = s.pwr := rfl
@[simp] theorem State.updCan_link (s : State) (n : Nat) (f : Can → Can) : (s.updCan n f).link = s.link := rfl
@[simp] theorem State.updCan_eng (s : State) (n : Nat) (f : Can → Can) : (s.updCan n f).eng = s.eng := rfl
@[simp] theorem State.updCan_vat (s : State) (n : Nat) (f : Can → Can) : (s.updCan n f).vat = s.vat := rfl
@[simp] theorem State.updCan_live (s : State) (n : Nat) (f : Can → Can) : (s.updCan n f).live = s.live := rfl
@[simp] theorem State.updCan_regs (s : State) (n : Nat) (f : Can → Can) : (s.updCan n f).regs = s.regs := rfl
@[simp] theorem State.updCan_svc (s : State) (n : Nat) (f : Can → Can) : (s.updCan n f).svc = s.svc := rfl
@[simp] theorem State.updCan_load (s : State) (n : Nat) (f : Can → Can) : (s.updCan n f).load = s.load := rfl
@[simp] theorem State.updCan_pins (s : State) (n : Nat) (f : Can → Can) : (s.updCan n f).pins = s.pins := rfl
@[simp] theorem State.updCan_therm (s : State) (n : Nat) (f : Can → Can) : (s.updCan n f).therm = s.therm := rfl
@[simp] theorem State.updCan_valve (s : State) (n : Nat) (f : Can → Can) : (s.updCan n f).valve = s.valve := rfl
@[simp] theorem State.updCan_port (s : State) (n : Nat) (f : Can → Can) : (s.updCan n f).port = s.port := rfl
@[simp] theorem State.updCan_contact (s : State) (n : Nat) (f : Can → Can) : (s.updCan n f).contact = s.contact := rfl
@[simp] theorem State.updCan_field (s : State) (n : Nat) (f : Can → Can) : (s.updCan n f).field = s.field := rfl
@[simp] theorem State.updCan_tickTsc (s : State) (n : Nat) (f : Can → Can) : (s.updCan n f).tickTsc = s.tickTsc := rfl
@[simp] theorem State.updCan_lin (s : State) (n : Nat) (f : Can → Can) : (s.updCan n f).lin = s.lin := rfl
@[simp] theorem State.updCan_t1s (s : State) (n : Nat) (f : Can → Can) : (s.updCan n f).t1s = s.t1s := rfl
@[simp] theorem State.updCan_tim (s : State) (n : Nat) (f : Can → Can) : (s.updCan n f).tim = s.tim := rfl
@[simp] theorem State.updCan_adj (s : State) (n : Nat) (f : Can → Can) : (s.updCan n f).adj = s.adj := rfl
@[simp] theorem State.updCan_nm (s : State) (n : Nat) (f : Can → Can) : (s.updCan n f).nm = s.nm := rfl
@[simp] theorem State.updCan_acc (s : State) (n : Nat) (f : Can → Can) : (s.updCan n f).acc = s.acc := rfl
@[simp] theorem State.updCan_accEnd (s : State) (n : Nat) (f : Can → Can) : (s.updCan n f).accEnd = s.accEnd := rfl
@[simp] theorem State.updCan_app (s : State) (n : Nat) (f : Can → Can) : (s.updCan n f).app = s.app := rfl
@[simp] theorem State.updCan_appTodo (s : State) (n : Nat) (f : Can → Can) : (s.updCan n f).appTodo = s.appTodo := rfl
@[simp] theorem State.updCan_core (s : State) (n : Nat) (f : Can → Can) : (s.updCan n f).core = s.core := rfl
@[simp] theorem State.updCan_win (s : State) (n : Nat) (f : Can → Can) : (s.updCan n f).win = s.win := rfl
@[simp] theorem State.updCan_flt (s : State) (n : Nat) (f : Can → Can) : (s.updCan n f).flt = s.flt := rfl
@[simp] theorem State.updCan_mem (s : State) (n : Nat) (f : Can → Can) : (s.updCan n f).mem = s.mem := rfl
@[simp] theorem State.updCan_feat (s : State) (n : Nat) (f : Can → Can) : (s.updCan n f).feat = s.feat := rfl
@[simp] theorem State.updCan_latches (s : State) (n : Nat) (f : Can → Can) : (s.updCan n f).latches = s.latches := rfl
@[simp] theorem State.updCan_vatCfg (s : State) (n : Nat) (f : Can → Can) : (s.updCan n f).vatCfg = s.vatCfg := rfl
@[simp] theorem State.updCan_busOut (s : State) (n : Nat) (f : Can → Can) : (s.updCan n f).busOut = s.busOut := rfl
@[simp] theorem State.updCan_busEnd (s : State) (n : Nat) (f : Can → Can) : (s.updCan n f).busEnd = s.busEnd := rfl
@[simp] theorem State.updCan_evSeq (s : State) (n : Nat) (f : Can → Can) : (s.updCan n f).evSeq = s.evSeq := rfl
@[simp] theorem State.updCan_freeCtr (s : State) (n : Nat) (f : Can → Can) : (s.updCan n f).freeCtr = s.freeCtr := rfl

/-! ### State.updLin -/

@[simp] theorem State.updLin_pending (s : State) (n : Nat) (f : Lin → Lin) : (s.updLin n f).pending = s.pending := rfl
@[simp] theorem State.updLin_clk (s : State) (n : Nat) (f : Lin → Lin) : (s.updLin n f).clk = s.clk := rfl
@[simp] theorem State.updLin_supply (s : State) (n : Nat) (f : Lin → Lin) : (s.updLin n f).supply = s.supply := rfl
@[simp] theorem State.updLin_pwr (s : State) (n : Nat) (f : Lin → Lin) : (s.updLin n f).pwr = s.pwr := rfl
@[simp] theorem State.updLin_link (s : State) (n : Nat) (f : Lin → Lin) : (s.updLin n f).link = s.link := rfl
@[simp] theorem State.updLin_eng (s : State) (n : Nat) (f : Lin → Lin) : (s.updLin n f).eng = s.eng := rfl
@[simp] theorem State.updLin_vat (s : State) (n : Nat) (f : Lin → Lin) : (s.updLin n f).vat = s.vat := rfl
@[simp] theorem State.updLin_live (s : State) (n : Nat) (f : Lin → Lin) : (s.updLin n f).live = s.live := rfl
@[simp] theorem State.updLin_regs (s : State) (n : Nat) (f : Lin → Lin) : (s.updLin n f).regs = s.regs := rfl
@[simp] theorem State.updLin_svc (s : State) (n : Nat) (f : Lin → Lin) : (s.updLin n f).svc = s.svc := rfl
@[simp] theorem State.updLin_load (s : State) (n : Nat) (f : Lin → Lin) : (s.updLin n f).load = s.load := rfl
@[simp] theorem State.updLin_pins (s : State) (n : Nat) (f : Lin → Lin) : (s.updLin n f).pins = s.pins := rfl
@[simp] theorem State.updLin_therm (s : State) (n : Nat) (f : Lin → Lin) : (s.updLin n f).therm = s.therm := rfl
@[simp] theorem State.updLin_valve (s : State) (n : Nat) (f : Lin → Lin) : (s.updLin n f).valve = s.valve := rfl
@[simp] theorem State.updLin_port (s : State) (n : Nat) (f : Lin → Lin) : (s.updLin n f).port = s.port := rfl
@[simp] theorem State.updLin_contact (s : State) (n : Nat) (f : Lin → Lin) : (s.updLin n f).contact = s.contact := rfl
@[simp] theorem State.updLin_field (s : State) (n : Nat) (f : Lin → Lin) : (s.updLin n f).field = s.field := rfl
@[simp] theorem State.updLin_can (s : State) (n : Nat) (f : Lin → Lin) : (s.updLin n f).can = s.can := rfl
@[simp] theorem State.updLin_tickTsc (s : State) (n : Nat) (f : Lin → Lin) : (s.updLin n f).tickTsc = s.tickTsc := rfl
@[simp] theorem State.updLin_t1s (s : State) (n : Nat) (f : Lin → Lin) : (s.updLin n f).t1s = s.t1s := rfl
@[simp] theorem State.updLin_tim (s : State) (n : Nat) (f : Lin → Lin) : (s.updLin n f).tim = s.tim := rfl
@[simp] theorem State.updLin_adj (s : State) (n : Nat) (f : Lin → Lin) : (s.updLin n f).adj = s.adj := rfl
@[simp] theorem State.updLin_nm (s : State) (n : Nat) (f : Lin → Lin) : (s.updLin n f).nm = s.nm := rfl
@[simp] theorem State.updLin_acc (s : State) (n : Nat) (f : Lin → Lin) : (s.updLin n f).acc = s.acc := rfl
@[simp] theorem State.updLin_accEnd (s : State) (n : Nat) (f : Lin → Lin) : (s.updLin n f).accEnd = s.accEnd := rfl
@[simp] theorem State.updLin_app (s : State) (n : Nat) (f : Lin → Lin) : (s.updLin n f).app = s.app := rfl
@[simp] theorem State.updLin_appTodo (s : State) (n : Nat) (f : Lin → Lin) : (s.updLin n f).appTodo = s.appTodo := rfl
@[simp] theorem State.updLin_core (s : State) (n : Nat) (f : Lin → Lin) : (s.updLin n f).core = s.core := rfl
@[simp] theorem State.updLin_win (s : State) (n : Nat) (f : Lin → Lin) : (s.updLin n f).win = s.win := rfl
@[simp] theorem State.updLin_flt (s : State) (n : Nat) (f : Lin → Lin) : (s.updLin n f).flt = s.flt := rfl
@[simp] theorem State.updLin_mem (s : State) (n : Nat) (f : Lin → Lin) : (s.updLin n f).mem = s.mem := rfl
@[simp] theorem State.updLin_feat (s : State) (n : Nat) (f : Lin → Lin) : (s.updLin n f).feat = s.feat := rfl
@[simp] theorem State.updLin_latches (s : State) (n : Nat) (f : Lin → Lin) : (s.updLin n f).latches = s.latches := rfl
@[simp] theorem State.updLin_vatCfg (s : State) (n : Nat) (f : Lin → Lin) : (s.updLin n f).vatCfg = s.vatCfg := rfl
@[simp] theorem State.updLin_busOut (s : State) (n : Nat) (f : Lin → Lin) : (s.updLin n f).busOut = s.busOut := rfl
@[simp] theorem State.updLin_busEnd (s : State) (n : Nat) (f : Lin → Lin) : (s.updLin n f).busEnd = s.busEnd := rfl
@[simp] theorem State.updLin_evSeq (s : State) (n : Nat) (f : Lin → Lin) : (s.updLin n f).evSeq = s.evSeq := rfl
@[simp] theorem State.updLin_freeCtr (s : State) (n : Nat) (f : Lin → Lin) : (s.updLin n f).freeCtr = s.freeCtr := rfl

/-! ### State.updT1s -/

@[simp] theorem State.updT1s_pending (s : State) (n : Nat) (f : T1s → T1s) : (s.updT1s n f).pending = s.pending := rfl
@[simp] theorem State.updT1s_clk (s : State) (n : Nat) (f : T1s → T1s) : (s.updT1s n f).clk = s.clk := rfl
@[simp] theorem State.updT1s_supply (s : State) (n : Nat) (f : T1s → T1s) : (s.updT1s n f).supply = s.supply := rfl
@[simp] theorem State.updT1s_pwr (s : State) (n : Nat) (f : T1s → T1s) : (s.updT1s n f).pwr = s.pwr := rfl
@[simp] theorem State.updT1s_link (s : State) (n : Nat) (f : T1s → T1s) : (s.updT1s n f).link = s.link := rfl
@[simp] theorem State.updT1s_eng (s : State) (n : Nat) (f : T1s → T1s) : (s.updT1s n f).eng = s.eng := rfl
@[simp] theorem State.updT1s_vat (s : State) (n : Nat) (f : T1s → T1s) : (s.updT1s n f).vat = s.vat := rfl
@[simp] theorem State.updT1s_live (s : State) (n : Nat) (f : T1s → T1s) : (s.updT1s n f).live = s.live := rfl
@[simp] theorem State.updT1s_regs (s : State) (n : Nat) (f : T1s → T1s) : (s.updT1s n f).regs = s.regs := rfl
@[simp] theorem State.updT1s_svc (s : State) (n : Nat) (f : T1s → T1s) : (s.updT1s n f).svc = s.svc := rfl
@[simp] theorem State.updT1s_load (s : State) (n : Nat) (f : T1s → T1s) : (s.updT1s n f).load = s.load := rfl
@[simp] theorem State.updT1s_pins (s : State) (n : Nat) (f : T1s → T1s) : (s.updT1s n f).pins = s.pins := rfl
@[simp] theorem State.updT1s_therm (s : State) (n : Nat) (f : T1s → T1s) : (s.updT1s n f).therm = s.therm := rfl
@[simp] theorem State.updT1s_valve (s : State) (n : Nat) (f : T1s → T1s) : (s.updT1s n f).valve = s.valve := rfl
@[simp] theorem State.updT1s_port (s : State) (n : Nat) (f : T1s → T1s) : (s.updT1s n f).port = s.port := rfl
@[simp] theorem State.updT1s_contact (s : State) (n : Nat) (f : T1s → T1s) : (s.updT1s n f).contact = s.contact := rfl
@[simp] theorem State.updT1s_field (s : State) (n : Nat) (f : T1s → T1s) : (s.updT1s n f).field = s.field := rfl
@[simp] theorem State.updT1s_can (s : State) (n : Nat) (f : T1s → T1s) : (s.updT1s n f).can = s.can := rfl
@[simp] theorem State.updT1s_tickTsc (s : State) (n : Nat) (f : T1s → T1s) : (s.updT1s n f).tickTsc = s.tickTsc := rfl
@[simp] theorem State.updT1s_lin (s : State) (n : Nat) (f : T1s → T1s) : (s.updT1s n f).lin = s.lin := rfl
@[simp] theorem State.updT1s_tim (s : State) (n : Nat) (f : T1s → T1s) : (s.updT1s n f).tim = s.tim := rfl
@[simp] theorem State.updT1s_adj (s : State) (n : Nat) (f : T1s → T1s) : (s.updT1s n f).adj = s.adj := rfl
@[simp] theorem State.updT1s_nm (s : State) (n : Nat) (f : T1s → T1s) : (s.updT1s n f).nm = s.nm := rfl
@[simp] theorem State.updT1s_acc (s : State) (n : Nat) (f : T1s → T1s) : (s.updT1s n f).acc = s.acc := rfl
@[simp] theorem State.updT1s_accEnd (s : State) (n : Nat) (f : T1s → T1s) : (s.updT1s n f).accEnd = s.accEnd := rfl
@[simp] theorem State.updT1s_app (s : State) (n : Nat) (f : T1s → T1s) : (s.updT1s n f).app = s.app := rfl
@[simp] theorem State.updT1s_appTodo (s : State) (n : Nat) (f : T1s → T1s) : (s.updT1s n f).appTodo = s.appTodo := rfl
@[simp] theorem State.updT1s_core (s : State) (n : Nat) (f : T1s → T1s) : (s.updT1s n f).core = s.core := rfl
@[simp] theorem State.updT1s_win (s : State) (n : Nat) (f : T1s → T1s) : (s.updT1s n f).win = s.win := rfl
@[simp] theorem State.updT1s_flt (s : State) (n : Nat) (f : T1s → T1s) : (s.updT1s n f).flt = s.flt := rfl
@[simp] theorem State.updT1s_mem (s : State) (n : Nat) (f : T1s → T1s) : (s.updT1s n f).mem = s.mem := rfl
@[simp] theorem State.updT1s_feat (s : State) (n : Nat) (f : T1s → T1s) : (s.updT1s n f).feat = s.feat := rfl
@[simp] theorem State.updT1s_latches (s : State) (n : Nat) (f : T1s → T1s) : (s.updT1s n f).latches = s.latches := rfl
@[simp] theorem State.updT1s_vatCfg (s : State) (n : Nat) (f : T1s → T1s) : (s.updT1s n f).vatCfg = s.vatCfg := rfl
@[simp] theorem State.updT1s_busOut (s : State) (n : Nat) (f : T1s → T1s) : (s.updT1s n f).busOut = s.busOut := rfl
@[simp] theorem State.updT1s_busEnd (s : State) (n : Nat) (f : T1s → T1s) : (s.updT1s n f).busEnd = s.busEnd := rfl
@[simp] theorem State.updT1s_evSeq (s : State) (n : Nat) (f : T1s → T1s) : (s.updT1s n f).evSeq = s.evSeq := rfl
@[simp] theorem State.updT1s_freeCtr (s : State) (n : Nat) (f : T1s → T1s) : (s.updT1s n f).freeCtr = s.freeCtr := rfl

/-! ### State.updSlot -/

@[simp] theorem State.updSlot_pending (s : State) (n : Nat) (f : AppSlot → AppSlot) : (s.updSlot n f).pending = s.pending := rfl
@[simp] theorem State.updSlot_clk (s : State) (n : Nat) (f : AppSlot → AppSlot) : (s.updSlot n f).clk = s.clk := rfl
@[simp] theorem State.updSlot_supply (s : State) (n : Nat) (f : AppSlot → AppSlot) : (s.updSlot n f).supply = s.supply := rfl
@[simp] theorem State.updSlot_pwr (s : State) (n : Nat) (f : AppSlot → AppSlot) : (s.updSlot n f).pwr = s.pwr := rfl
@[simp] theorem State.updSlot_link (s : State) (n : Nat) (f : AppSlot → AppSlot) : (s.updSlot n f).link = s.link := rfl
@[simp] theorem State.updSlot_eng (s : State) (n : Nat) (f : AppSlot → AppSlot) : (s.updSlot n f).eng = s.eng := rfl
@[simp] theorem State.updSlot_vat (s : State) (n : Nat) (f : AppSlot → AppSlot) : (s.updSlot n f).vat = s.vat := rfl
@[simp] theorem State.updSlot_live (s : State) (n : Nat) (f : AppSlot → AppSlot) : (s.updSlot n f).live = s.live := rfl
@[simp] theorem State.updSlot_regs (s : State) (n : Nat) (f : AppSlot → AppSlot) : (s.updSlot n f).regs = s.regs := rfl
@[simp] theorem State.updSlot_svc (s : State) (n : Nat) (f : AppSlot → AppSlot) : (s.updSlot n f).svc = s.svc := rfl
@[simp] theorem State.updSlot_load (s : State) (n : Nat) (f : AppSlot → AppSlot) : (s.updSlot n f).load = s.load := rfl
@[simp] theorem State.updSlot_pins (s : State) (n : Nat) (f : AppSlot → AppSlot) : (s.updSlot n f).pins = s.pins := rfl
@[simp] theorem State.updSlot_therm (s : State) (n : Nat) (f : AppSlot → AppSlot) : (s.updSlot n f).therm = s.therm := rfl
@[simp] theorem State.updSlot_valve (s : State) (n : Nat) (f : AppSlot → AppSlot) : (s.updSlot n f).valve = s.valve := rfl
@[simp] theorem State.updSlot_port (s : State) (n : Nat) (f : AppSlot → AppSlot) : (s.updSlot n f).port = s.port := rfl
@[simp] theorem State.updSlot_contact (s : State) (n : Nat) (f : AppSlot → AppSlot) : (s.updSlot n f).contact = s.contact := rfl
@[simp] theorem State.updSlot_field (s : State) (n : Nat) (f : AppSlot → AppSlot) : (s.updSlot n f).field = s.field := rfl
@[simp] theorem State.updSlot_can (s : State) (n : Nat) (f : AppSlot → AppSlot) : (s.updSlot n f).can = s.can := rfl
@[simp] theorem State.updSlot_tickTsc (s : State) (n : Nat) (f : AppSlot → AppSlot) : (s.updSlot n f).tickTsc = s.tickTsc := rfl
@[simp] theorem State.updSlot_lin (s : State) (n : Nat) (f : AppSlot → AppSlot) : (s.updSlot n f).lin = s.lin := rfl
@[simp] theorem State.updSlot_t1s (s : State) (n : Nat) (f : AppSlot → AppSlot) : (s.updSlot n f).t1s = s.t1s := rfl
@[simp] theorem State.updSlot_tim (s : State) (n : Nat) (f : AppSlot → AppSlot) : (s.updSlot n f).tim = s.tim := rfl
@[simp] theorem State.updSlot_adj (s : State) (n : Nat) (f : AppSlot → AppSlot) : (s.updSlot n f).adj = s.adj := rfl
@[simp] theorem State.updSlot_nm (s : State) (n : Nat) (f : AppSlot → AppSlot) : (s.updSlot n f).nm = s.nm := rfl
@[simp] theorem State.updSlot_acc (s : State) (n : Nat) (f : AppSlot → AppSlot) : (s.updSlot n f).acc = s.acc := rfl
@[simp] theorem State.updSlot_accEnd (s : State) (n : Nat) (f : AppSlot → AppSlot) : (s.updSlot n f).accEnd = s.accEnd := rfl
@[simp] theorem State.updSlot_appTodo (s : State) (n : Nat) (f : AppSlot → AppSlot) : (s.updSlot n f).appTodo = s.appTodo := rfl
@[simp] theorem State.updSlot_core (s : State) (n : Nat) (f : AppSlot → AppSlot) : (s.updSlot n f).core = s.core := rfl
@[simp] theorem State.updSlot_win (s : State) (n : Nat) (f : AppSlot → AppSlot) : (s.updSlot n f).win = s.win := rfl
@[simp] theorem State.updSlot_flt (s : State) (n : Nat) (f : AppSlot → AppSlot) : (s.updSlot n f).flt = s.flt := rfl
@[simp] theorem State.updSlot_mem (s : State) (n : Nat) (f : AppSlot → AppSlot) : (s.updSlot n f).mem = s.mem := rfl
@[simp] theorem State.updSlot_feat (s : State) (n : Nat) (f : AppSlot → AppSlot) : (s.updSlot n f).feat = s.feat := rfl
@[simp] theorem State.updSlot_latches (s : State) (n : Nat) (f : AppSlot → AppSlot) : (s.updSlot n f).latches = s.latches := rfl
@[simp] theorem State.updSlot_vatCfg (s : State) (n : Nat) (f : AppSlot → AppSlot) : (s.updSlot n f).vatCfg = s.vatCfg := rfl
@[simp] theorem State.updSlot_busOut (s : State) (n : Nat) (f : AppSlot → AppSlot) : (s.updSlot n f).busOut = s.busOut := rfl
@[simp] theorem State.updSlot_busEnd (s : State) (n : Nat) (f : AppSlot → AppSlot) : (s.updSlot n f).busEnd = s.busEnd := rfl
@[simp] theorem State.updSlot_evSeq (s : State) (n : Nat) (f : AppSlot → AppSlot) : (s.updSlot n f).evSeq = s.evSeq := rfl
@[simp] theorem State.updSlot_freeCtr (s : State) (n : Nat) (f : AppSlot → AppSlot) : (s.updSlot n f).freeCtr = s.freeCtr := rfl

/-! ### State.updTok -/

@[simp] theorem State.updTok_pending (s : State) (n : Nat) (f : TokenSlot → TokenSlot) : (s.updTok n f).pending = s.pending := rfl
@[simp] theorem State.updTok_clk (s : State) (n : Nat) (f : TokenSlot → TokenSlot) : (s.updTok n f).clk = s.clk := rfl
@[simp] theorem State.updTok_supply (s : State) (n : Nat) (f : TokenSlot → TokenSlot) : (s.updTok n f).supply = s.supply := rfl
@[simp] theorem State.updTok_pwr (s : State) (n : Nat) (f : TokenSlot → TokenSlot) : (s.updTok n f).pwr = s.pwr := rfl
@[simp] theorem State.updTok_link (s : State) (n : Nat) (f : TokenSlot → TokenSlot) : (s.updTok n f).link = s.link := rfl
@[simp] theorem State.updTok_eng (s : State) (n : Nat) (f : TokenSlot → TokenSlot) : (s.updTok n f).eng = s.eng := rfl
@[simp] theorem State.updTok_vat (s : State) (n : Nat) (f : TokenSlot → TokenSlot) : (s.updTok n f).vat = s.vat := rfl
@[simp] theorem State.updTok_live (s : State) (n : Nat) (f : TokenSlot → TokenSlot) : (s.updTok n f).live = s.live := rfl
@[simp] theorem State.updTok_regs (s : State) (n : Nat) (f : TokenSlot → TokenSlot) : (s.updTok n f).regs = s.regs := rfl
@[simp] theorem State.updTok_svc (s : State) (n : Nat) (f : TokenSlot → TokenSlot) : (s.updTok n f).svc = s.svc := rfl
@[simp] theorem State.updTok_load (s : State) (n : Nat) (f : TokenSlot → TokenSlot) : (s.updTok n f).load = s.load := rfl
@[simp] theorem State.updTok_pins (s : State) (n : Nat) (f : TokenSlot → TokenSlot) : (s.updTok n f).pins = s.pins := rfl
@[simp] theorem State.updTok_therm (s : State) (n : Nat) (f : TokenSlot → TokenSlot) : (s.updTok n f).therm = s.therm := rfl
@[simp] theorem State.updTok_valve (s : State) (n : Nat) (f : TokenSlot → TokenSlot) : (s.updTok n f).valve = s.valve := rfl
@[simp] theorem State.updTok_port (s : State) (n : Nat) (f : TokenSlot → TokenSlot) : (s.updTok n f).port = s.port := rfl
@[simp] theorem State.updTok_contact (s : State) (n : Nat) (f : TokenSlot → TokenSlot) : (s.updTok n f).contact = s.contact := rfl
@[simp] theorem State.updTok_field (s : State) (n : Nat) (f : TokenSlot → TokenSlot) : (s.updTok n f).field = s.field := rfl
@[simp] theorem State.updTok_can (s : State) (n : Nat) (f : TokenSlot → TokenSlot) : (s.updTok n f).can = s.can := rfl
@[simp] theorem State.updTok_tickTsc (s : State) (n : Nat) (f : TokenSlot → TokenSlot) : (s.updTok n f).tickTsc = s.tickTsc := rfl
@[simp] theorem State.updTok_lin (s : State) (n : Nat) (f : TokenSlot → TokenSlot) : (s.updTok n f).lin = s.lin := rfl
@[simp] theorem State.updTok_t1s (s : State) (n : Nat) (f : TokenSlot → TokenSlot) : (s.updTok n f).t1s = s.t1s := rfl
@[simp] theorem State.updTok_tim (s : State) (n : Nat) (f : TokenSlot → TokenSlot) : (s.updTok n f).tim = s.tim := rfl
@[simp] theorem State.updTok_adj (s : State) (n : Nat) (f : TokenSlot → TokenSlot) : (s.updTok n f).adj = s.adj := rfl
@[simp] theorem State.updTok_nm (s : State) (n : Nat) (f : TokenSlot → TokenSlot) : (s.updTok n f).nm = s.nm := rfl
@[simp] theorem State.updTok_accEnd (s : State) (n : Nat) (f : TokenSlot → TokenSlot) : (s.updTok n f).accEnd = s.accEnd := rfl
@[simp] theorem State.updTok_app (s : State) (n : Nat) (f : TokenSlot → TokenSlot) : (s.updTok n f).app = s.app := rfl
@[simp] theorem State.updTok_appTodo (s : State) (n : Nat) (f : TokenSlot → TokenSlot) : (s.updTok n f).appTodo = s.appTodo := rfl
@[simp] theorem State.updTok_core (s : State) (n : Nat) (f : TokenSlot → TokenSlot) : (s.updTok n f).core = s.core := rfl
@[simp] theorem State.updTok_win (s : State) (n : Nat) (f : TokenSlot → TokenSlot) : (s.updTok n f).win = s.win := rfl
@[simp] theorem State.updTok_flt (s : State) (n : Nat) (f : TokenSlot → TokenSlot) : (s.updTok n f).flt = s.flt := rfl
@[simp] theorem State.updTok_mem (s : State) (n : Nat) (f : TokenSlot → TokenSlot) : (s.updTok n f).mem = s.mem := rfl
@[simp] theorem State.updTok_feat (s : State) (n : Nat) (f : TokenSlot → TokenSlot) : (s.updTok n f).feat = s.feat := rfl
@[simp] theorem State.updTok_latches (s : State) (n : Nat) (f : TokenSlot → TokenSlot) : (s.updTok n f).latches = s.latches := rfl
@[simp] theorem State.updTok_vatCfg (s : State) (n : Nat) (f : TokenSlot → TokenSlot) : (s.updTok n f).vatCfg = s.vatCfg := rfl
@[simp] theorem State.updTok_busOut (s : State) (n : Nat) (f : TokenSlot → TokenSlot) : (s.updTok n f).busOut = s.busOut := rfl
@[simp] theorem State.updTok_busEnd (s : State) (n : Nat) (f : TokenSlot → TokenSlot) : (s.updTok n f).busEnd = s.busEnd := rfl
@[simp] theorem State.updTok_evSeq (s : State) (n : Nat) (f : TokenSlot → TokenSlot) : (s.updTok n f).evSeq = s.evSeq := rfl
@[simp] theorem State.updTok_freeCtr (s : State) (n : Nat) (f : TokenSlot → TokenSlot) : (s.updTok n f).freeCtr = s.freeCtr := rfl

/-! ### State.updSrc -/

@[simp] theorem State.updSrc_pending (s : State) (n : Nat) (f : FaultSrc → FaultSrc) : (s.updSrc n f).pending = s.pending := rfl
@[simp] theorem State.updSrc_clk (s : State) (n : Nat) (f : FaultSrc → FaultSrc) : (s.updSrc n f).clk = s.clk := rfl
@[simp] theorem State.updSrc_supply (s : State) (n : Nat) (f : FaultSrc → FaultSrc) : (s.updSrc n f).supply = s.supply := rfl
@[simp] theorem State.updSrc_pwr (s : State) (n : Nat) (f : FaultSrc → FaultSrc) : (s.updSrc n f).pwr = s.pwr := rfl
@[simp] theorem State.updSrc_link (s : State) (n : Nat) (f : FaultSrc → FaultSrc) : (s.updSrc n f).link = s.link := rfl
@[simp] theorem State.updSrc_eng (s : State) (n : Nat) (f : FaultSrc → FaultSrc) : (s.updSrc n f).eng = s.eng := rfl
@[simp] theorem State.updSrc_vat (s : State) (n : Nat) (f : FaultSrc → FaultSrc) : (s.updSrc n f).vat = s.vat := rfl
@[simp] theorem State.updSrc_live (s : State) (n : Nat) (f : FaultSrc → FaultSrc) : (s.updSrc n f).live = s.live := rfl
@[simp] theorem State.updSrc_regs (s : State) (n : Nat) (f : FaultSrc → FaultSrc) : (s.updSrc n f).regs = s.regs := rfl
@[simp] theorem State.updSrc_svc (s : State) (n : Nat) (f : FaultSrc → FaultSrc) : (s.updSrc n f).svc = s.svc := rfl
@[simp] theorem State.updSrc_load (s : State) (n : Nat) (f : FaultSrc → FaultSrc) : (s.updSrc n f).load = s.load := rfl
@[simp] theorem State.updSrc_pins (s : State) (n : Nat) (f : FaultSrc → FaultSrc) : (s.updSrc n f).pins = s.pins := rfl
@[simp] theorem State.updSrc_therm (s : State) (n : Nat) (f : FaultSrc → FaultSrc) : (s.updSrc n f).therm = s.therm := rfl
@[simp] theorem State.updSrc_valve (s : State) (n : Nat) (f : FaultSrc → FaultSrc) : (s.updSrc n f).valve = s.valve := rfl
@[simp] theorem State.updSrc_port (s : State) (n : Nat) (f : FaultSrc → FaultSrc) : (s.updSrc n f).port = s.port := rfl
@[simp] theorem State.updSrc_contact (s : State) (n : Nat) (f : FaultSrc → FaultSrc) : (s.updSrc n f).contact = s.contact := rfl
@[simp] theorem State.updSrc_field (s : State) (n : Nat) (f : FaultSrc → FaultSrc) : (s.updSrc n f).field = s.field := rfl
@[simp] theorem State.updSrc_can (s : State) (n : Nat) (f : FaultSrc → FaultSrc) : (s.updSrc n f).can = s.can := rfl
@[simp] theorem State.updSrc_tickTsc (s : State) (n : Nat) (f : FaultSrc → FaultSrc) : (s.updSrc n f).tickTsc = s.tickTsc := rfl
@[simp] theorem State.updSrc_lin (s : State) (n : Nat) (f : FaultSrc → FaultSrc) : (s.updSrc n f).lin = s.lin := rfl
@[simp] theorem State.updSrc_t1s (s : State) (n : Nat) (f : FaultSrc → FaultSrc) : (s.updSrc n f).t1s = s.t1s := rfl
@[simp] theorem State.updSrc_tim (s : State) (n : Nat) (f : FaultSrc → FaultSrc) : (s.updSrc n f).tim = s.tim := rfl
@[simp] theorem State.updSrc_adj (s : State) (n : Nat) (f : FaultSrc → FaultSrc) : (s.updSrc n f).adj = s.adj := rfl
@[simp] theorem State.updSrc_nm (s : State) (n : Nat) (f : FaultSrc → FaultSrc) : (s.updSrc n f).nm = s.nm := rfl
@[simp] theorem State.updSrc_acc (s : State) (n : Nat) (f : FaultSrc → FaultSrc) : (s.updSrc n f).acc = s.acc := rfl
@[simp] theorem State.updSrc_accEnd (s : State) (n : Nat) (f : FaultSrc → FaultSrc) : (s.updSrc n f).accEnd = s.accEnd := rfl
@[simp] theorem State.updSrc_app (s : State) (n : Nat) (f : FaultSrc → FaultSrc) : (s.updSrc n f).app = s.app := rfl
@[simp] theorem State.updSrc_appTodo (s : State) (n : Nat) (f : FaultSrc → FaultSrc) : (s.updSrc n f).appTodo = s.appTodo := rfl
@[simp] theorem State.updSrc_core (s : State) (n : Nat) (f : FaultSrc → FaultSrc) : (s.updSrc n f).core = s.core := rfl
@[simp] theorem State.updSrc_win (s : State) (n : Nat) (f : FaultSrc → FaultSrc) : (s.updSrc n f).win = s.win := rfl
@[simp] theorem State.updSrc_mem (s : State) (n : Nat) (f : FaultSrc → FaultSrc) : (s.updSrc n f).mem = s.mem := rfl
@[simp] theorem State.updSrc_feat (s : State) (n : Nat) (f : FaultSrc → FaultSrc) : (s.updSrc n f).feat = s.feat := rfl
@[simp] theorem State.updSrc_latches (s : State) (n : Nat) (f : FaultSrc → FaultSrc) : (s.updSrc n f).latches = s.latches := rfl
@[simp] theorem State.updSrc_vatCfg (s : State) (n : Nat) (f : FaultSrc → FaultSrc) : (s.updSrc n f).vatCfg = s.vatCfg := rfl
@[simp] theorem State.updSrc_busOut (s : State) (n : Nat) (f : FaultSrc → FaultSrc) : (s.updSrc n f).busOut = s.busOut := rfl
@[simp] theorem State.updSrc_busEnd (s : State) (n : Nat) (f : FaultSrc → FaultSrc) : (s.updSrc n f).busEnd = s.busEnd := rfl
@[simp] theorem State.updSrc_evSeq (s : State) (n : Nat) (f : FaultSrc → FaultSrc) : (s.updSrc n f).evSeq = s.evSeq := rfl
@[simp] theorem State.updSrc_freeCtr (s : State) (n : Nat) (f : FaultSrc → FaultSrc) : (s.updSrc n f).freeCtr = s.freeCtr := rfl

/-! ### State.updCl -/

@[simp] theorem State.updCl_pending (s : State) (n : Nat) (f : Cluster → Cluster) : (s.updCl n f).pending = s.pending := rfl
@[simp] theorem State.updCl_clk (s : State) (n : Nat) (f : Cluster → Cluster) : (s.updCl n f).clk = s.clk := rfl
@[simp] theorem State.updCl_supply (s : State) (n : Nat) (f : Cluster → Cluster) : (s.updCl n f).supply = s.supply := rfl
@[simp] theorem State.updCl_pwr (s : State) (n : Nat) (f : Cluster → Cluster) : (s.updCl n f).pwr = s.pwr := rfl
@[simp] theorem State.updCl_link (s : State) (n : Nat) (f : Cluster → Cluster) : (s.updCl n f).link = s.link := rfl
@[simp] theorem State.updCl_eng (s : State) (n : Nat) (f : Cluster → Cluster) : (s.updCl n f).eng = s.eng := rfl
@[simp] theorem State.updCl_vat (s : State) (n : Nat) (f : Cluster → Cluster) : (s.updCl n f).vat = s.vat := rfl
@[simp] theorem State.updCl_live (s : State) (n : Nat) (f : Cluster → Cluster) : (s.updCl n f).live = s.live := rfl
@[simp] theorem State.updCl_regs (s : State) (n : Nat) (f : Cluster → Cluster) : (s.updCl n f).regs = s.regs := rfl
@[simp] theorem State.updCl_svc (s : State) (n : Nat) (f : Cluster → Cluster) : (s.updCl n f).svc = s.svc := rfl
@[simp] theorem State.updCl_load (s : State) (n : Nat) (f : Cluster → Cluster) : (s.updCl n f).load = s.load := rfl
@[simp] theorem State.updCl_pins (s : State) (n : Nat) (f : Cluster → Cluster) : (s.updCl n f).pins = s.pins := rfl
@[simp] theorem State.updCl_valve (s : State) (n : Nat) (f : Cluster → Cluster) : (s.updCl n f).valve = s.valve := rfl
@[simp] theorem State.updCl_port (s : State) (n : Nat) (f : Cluster → Cluster) : (s.updCl n f).port = s.port := rfl
@[simp] theorem State.updCl_contact (s : State) (n : Nat) (f : Cluster → Cluster) : (s.updCl n f).contact = s.contact := rfl
@[simp] theorem State.updCl_field (s : State) (n : Nat) (f : Cluster → Cluster) : (s.updCl n f).field = s.field := rfl
@[simp] theorem State.updCl_can (s : State) (n : Nat) (f : Cluster → Cluster) : (s.updCl n f).can = s.can := rfl
@[simp] theorem State.updCl_tickTsc (s : State) (n : Nat) (f : Cluster → Cluster) : (s.updCl n f).tickTsc = s.tickTsc := rfl
@[simp] theorem State.updCl_lin (s : State) (n : Nat) (f : Cluster → Cluster) : (s.updCl n f).lin = s.lin := rfl
@[simp] theorem State.updCl_t1s (s : State) (n : Nat) (f : Cluster → Cluster) : (s.updCl n f).t1s = s.t1s := rfl
@[simp] theorem State.updCl_tim (s : State) (n : Nat) (f : Cluster → Cluster) : (s.updCl n f).tim = s.tim := rfl
@[simp] theorem State.updCl_adj (s : State) (n : Nat) (f : Cluster → Cluster) : (s.updCl n f).adj = s.adj := rfl
@[simp] theorem State.updCl_nm (s : State) (n : Nat) (f : Cluster → Cluster) : (s.updCl n f).nm = s.nm := rfl
@[simp] theorem State.updCl_acc (s : State) (n : Nat) (f : Cluster → Cluster) : (s.updCl n f).acc = s.acc := rfl
@[simp] theorem State.updCl_accEnd (s : State) (n : Nat) (f : Cluster → Cluster) : (s.updCl n f).accEnd = s.accEnd := rfl
@[simp] theorem State.updCl_app (s : State) (n : Nat) (f : Cluster → Cluster) : (s.updCl n f).app = s.app := rfl
@[simp] theorem State.updCl_appTodo (s : State) (n : Nat) (f : Cluster → Cluster) : (s.updCl n f).appTodo = s.appTodo := rfl
@[simp] theorem State.updCl_core (s : State) (n : Nat) (f : Cluster → Cluster) : (s.updCl n f).core = s.core := rfl
@[simp] theorem State.updCl_win (s : State) (n : Nat) (f : Cluster → Cluster) : (s.updCl n f).win = s.win := rfl
@[simp] theorem State.updCl_flt (s : State) (n : Nat) (f : Cluster → Cluster) : (s.updCl n f).flt = s.flt := rfl
@[simp] theorem State.updCl_mem (s : State) (n : Nat) (f : Cluster → Cluster) : (s.updCl n f).mem = s.mem := rfl
@[simp] theorem State.updCl_feat (s : State) (n : Nat) (f : Cluster → Cluster) : (s.updCl n f).feat = s.feat := rfl
@[simp] theorem State.updCl_latches (s : State) (n : Nat) (f : Cluster → Cluster) : (s.updCl n f).latches = s.latches := rfl
@[simp] theorem State.updCl_vatCfg (s : State) (n : Nat) (f : Cluster → Cluster) : (s.updCl n f).vatCfg = s.vatCfg := rfl
@[simp] theorem State.updCl_busOut (s : State) (n : Nat) (f : Cluster → Cluster) : (s.updCl n f).busOut = s.busOut := rfl
@[simp] theorem State.updCl_busEnd (s : State) (n : Nat) (f : Cluster → Cluster) : (s.updCl n f).busEnd = s.busEnd := rfl
@[simp] theorem State.updCl_evSeq (s : State) (n : Nat) (f : Cluster → Cluster) : (s.updCl n f).evSeq = s.evSeq := rfl
@[simp] theorem State.updCl_freeCtr (s : State) (n : Nat) (f : Cluster → Cluster) : (s.updCl n f).freeCtr = s.freeCtr := rfl

/-! ### State.updPin -/

@[simp] theorem State.updPin_pending (s : State) (n : Nat) (f : PwmPin → PwmPin) : (s.updPin n f).pending = s.pending := rfl
@[simp] theorem State.updPin_clk (s : State) (n : Nat) (f : PwmPin → PwmPin) : (s.updPin n f).clk = s.clk := rfl
@[simp] theorem State.updPin_supply (s : State) (n : Nat) (f : PwmPin → PwmPin) : (s.updPin n f).supply = s.supply := rfl
@[simp] theorem State.updPin_pwr (s : State) (n : Nat) (f : PwmPin → PwmPin) : (s.updPin n f).pwr = s.pwr := rfl
@[simp] theorem State.updPin_link (s : State) (n : Nat) (f : PwmPin → PwmPin) : (s.updPin n f).link = s.link := rfl
@[simp] theorem State.updPin_eng (s : State) (n : Nat) (f : PwmPin → PwmPin) : (s.updPin n f).eng = s.eng := rfl
@[simp] theorem State.updPin_vat (s : State) (n : Nat) (f : PwmPin → PwmPin) : (s.updPin n f).vat = s.vat := rfl
@[simp] theorem State.updPin_live (s : State) (n : Nat) (f : PwmPin → PwmPin) : (s.updPin n f).live = s.live := rfl
@[simp] theorem State.updPin_regs (s : State) (n : Nat) (f : PwmPin → PwmPin) : (s.updPin n f).regs = s.regs := rfl
@[simp] theorem State.updPin_svc (s : State) (n : Nat) (f : PwmPin → PwmPin) : (s.updPin n f).svc = s.svc := rfl
@[simp] theorem State.updPin_load (s : State) (n : Nat) (f : PwmPin → PwmPin) : (s.updPin n f).load = s.load := rfl
@[simp] theorem State.updPin_therm (s : State) (n : Nat) (f : PwmPin → PwmPin) : (s.updPin n f).therm = s.therm := rfl
@[simp] theorem State.updPin_valve (s : State) (n : Nat) (f : PwmPin → PwmPin) : (s.updPin n f).valve = s.valve := rfl
@[simp] theorem State.updPin_port (s : State) (n : Nat) (f : PwmPin → PwmPin) : (s.updPin n f).port = s.port := rfl
@[simp] theorem State.updPin_contact (s : State) (n : Nat) (f : PwmPin → PwmPin) : (s.updPin n f).contact = s.contact := rfl
@[simp] theorem State.updPin_field (s : State) (n : Nat) (f : PwmPin → PwmPin) : (s.updPin n f).field = s.field := rfl
@[simp] theorem State.updPin_can (s : State) (n : Nat) (f : PwmPin → PwmPin) : (s.updPin n f).can = s.can := rfl
@[simp] theorem State.updPin_tickTsc (s : State) (n : Nat) (f : PwmPin → PwmPin) : (s.updPin n f).tickTsc = s.tickTsc := rfl
@[simp] theorem State.updPin_lin (s : State) (n : Nat) (f : PwmPin → PwmPin) : (s.updPin n f).lin = s.lin := rfl
@[simp] theorem State.updPin_t1s (s : State) (n : Nat) (f : PwmPin → PwmPin) : (s.updPin n f).t1s = s.t1s := rfl
@[simp] theorem State.updPin_tim (s : State) (n : Nat) (f : PwmPin → PwmPin) : (s.updPin n f).tim = s.tim := rfl
@[simp] theorem State.updPin_adj (s : State) (n : Nat) (f : PwmPin → PwmPin) : (s.updPin n f).adj = s.adj := rfl
@[simp] theorem State.updPin_nm (s : State) (n : Nat) (f : PwmPin → PwmPin) : (s.updPin n f).nm = s.nm := rfl
@[simp] theorem State.updPin_acc (s : State) (n : Nat) (f : PwmPin → PwmPin) : (s.updPin n f).acc = s.acc := rfl
@[simp] theorem State.updPin_accEnd (s : State) (n : Nat) (f : PwmPin → PwmPin) : (s.updPin n f).accEnd = s.accEnd := rfl
@[simp] theorem State.updPin_app (s : State) (n : Nat) (f : PwmPin → PwmPin) : (s.updPin n f).app = s.app := rfl
@[simp] theorem State.updPin_appTodo (s : State) (n : Nat) (f : PwmPin → PwmPin) : (s.updPin n f).appTodo = s.appTodo := rfl
@[simp] theorem State.updPin_core (s : State) (n : Nat) (f : PwmPin → PwmPin) : (s.updPin n f).core = s.core := rfl
@[simp] theorem State.updPin_win (s : State) (n : Nat) (f : PwmPin → PwmPin) : (s.updPin n f).win = s.win := rfl
@[simp] theorem State.updPin_flt (s : State) (n : Nat) (f : PwmPin → PwmPin) : (s.updPin n f).flt = s.flt := rfl
@[simp] theorem State.updPin_mem (s : State) (n : Nat) (f : PwmPin → PwmPin) : (s.updPin n f).mem = s.mem := rfl
@[simp] theorem State.updPin_feat (s : State) (n : Nat) (f : PwmPin → PwmPin) : (s.updPin n f).feat = s.feat := rfl
@[simp] theorem State.updPin_latches (s : State) (n : Nat) (f : PwmPin → PwmPin) : (s.updPin n f).latches = s.latches := rfl
@[simp] theorem State.updPin_vatCfg (s : State) (n : Nat) (f : PwmPin → PwmPin) : (s.updPin n f).vatCfg = s.vatCfg := rfl
@[simp] theorem State.updPin_busOut (s : State) (n : Nat) (f : PwmPin → PwmPin) : (s.updPin n f).busOut = s.busOut := rfl
@[simp] theorem State.updPin_busEnd (s : State) (n : Nat) (f : PwmPin → PwmPin) : (s.updPin n f).busEnd = s.busEnd := rfl
@[simp] theorem State.updPin_evSeq (s : State) (n : Nat) (f : PwmPin → PwmPin) : (s.updPin n f).evSeq = s.evSeq := rfl
@[simp] theorem State.updPin_freeCtr (s : State) (n : Nat) (f : PwmPin → PwmPin) : (s.updPin n f).freeCtr = s.freeCtr := rfl

/-! ### State.updMem -/

@[simp] theorem State.updMem_pending (s : State) (f : Mem → Mem) : (s.updMem f).pending = s.pending := rfl
@[simp] theorem State.updMem_clk (s : State) (f : Mem → Mem) : (s.updMem f).clk = s.clk := rfl
@[simp] theorem State.updMem_supply (s : State) (f : Mem → Mem) : (s.updMem f).supply = s.supply := rfl
@[simp] theorem State.updMem_pwr (s : State) (f : Mem → Mem) : (s.updMem f).pwr = s.pwr := rfl
@[simp] theorem State.updMem_link (s : State) (f : Mem → Mem) : (s.updMem f).link = s.link := rfl
@[simp] theorem State.updMem_eng (s : State) (f : Mem → Mem) : (s.updMem f).eng = s.eng := rfl
@[simp] theorem State.updMem_vat (s : State) (f : Mem → Mem) : (s.updMem f).vat = s.vat := rfl
@[simp] theorem State.updMem_live (s : State) (f : Mem → Mem) : (s.updMem f).live = s.live := rfl
@[simp] theorem State.updMem_regs (s : State) (f : Mem → Mem) : (s.updMem f).regs = s.regs := rfl
@[simp] theorem State.updMem_svc (s : State) (f : Mem → Mem) : (s.updMem f).svc = s.svc := rfl
@[simp] theorem State.updMem_load (s : State) (f : Mem → Mem) : (s.updMem f).load = s.load := rfl
@[simp] theorem State.updMem_pins (s : State) (f : Mem → Mem) : (s.updMem f).pins = s.pins := rfl
@[simp] theorem State.updMem_therm (s : State) (f : Mem → Mem) : (s.updMem f).therm = s.therm := rfl
@[simp] theorem State.updMem_valve (s : State) (f : Mem → Mem) : (s.updMem f).valve = s.valve := rfl
@[simp] theorem State.updMem_port (s : State) (f : Mem → Mem) : (s.updMem f).port = s.port := rfl
@[simp] theorem State.updMem_contact (s : State) (f : Mem → Mem) : (s.updMem f).contact = s.contact := rfl
@[simp] theorem State.updMem_field (s : State) (f : Mem → Mem) : (s.updMem f).field = s.field := rfl
@[simp] theorem State.updMem_can (s : State) (f : Mem → Mem) : (s.updMem f).can = s.can := rfl
@[simp] theorem State.updMem_tickTsc (s : State) (f : Mem → Mem) : (s.updMem f).tickTsc = s.tickTsc := rfl
@[simp] theorem State.updMem_lin (s : State) (f : Mem → Mem) : (s.updMem f).lin = s.lin := rfl
@[simp] theorem State.updMem_t1s (s : State) (f : Mem → Mem) : (s.updMem f).t1s = s.t1s := rfl
@[simp] theorem State.updMem_tim (s : State) (f : Mem → Mem) : (s.updMem f).tim = s.tim := rfl
@[simp] theorem State.updMem_adj (s : State) (f : Mem → Mem) : (s.updMem f).adj = s.adj := rfl
@[simp] theorem State.updMem_nm (s : State) (f : Mem → Mem) : (s.updMem f).nm = s.nm := rfl
@[simp] theorem State.updMem_acc (s : State) (f : Mem → Mem) : (s.updMem f).acc = s.acc := rfl
@[simp] theorem State.updMem_accEnd (s : State) (f : Mem → Mem) : (s.updMem f).accEnd = s.accEnd := rfl
@[simp] theorem State.updMem_app (s : State) (f : Mem → Mem) : (s.updMem f).app = s.app := rfl
@[simp] theorem State.updMem_appTodo (s : State) (f : Mem → Mem) : (s.updMem f).appTodo = s.appTodo := rfl
@[simp] theorem State.updMem_core (s : State) (f : Mem → Mem) : (s.updMem f).core = s.core := rfl
@[simp] theorem State.updMem_win (s : State) (f : Mem → Mem) : (s.updMem f).win = s.win := rfl
@[simp] theorem State.updMem_flt (s : State) (f : Mem → Mem) : (s.updMem f).flt = s.flt := rfl
@[simp] theorem State.updMem_feat (s : State) (f : Mem → Mem) : (s.updMem f).feat = s.feat := rfl
@[simp] theorem State.updMem_latches (s : State) (f : Mem → Mem) : (s.updMem f).latches = s.latches := rfl
@[simp] theorem State.updMem_vatCfg (s : State) (f : Mem → Mem) : (s.updMem f).vatCfg = s.vatCfg := rfl
@[simp] theorem State.updMem_busOut (s : State) (f : Mem → Mem) : (s.updMem f).busOut = s.busOut := rfl
@[simp] theorem State.updMem_busEnd (s : State) (f : Mem → Mem) : (s.updMem f).busEnd = s.busEnd := rfl
@[simp] theorem State.updMem_evSeq (s : State) (f : Mem → Mem) : (s.updMem f).evSeq = s.evSeq := rfl
@[simp] theorem State.updMem_freeCtr (s : State) (f : Mem → Mem) : (s.updMem f).freeCtr = s.freeCtr := rfl

/-! ### State.updNm -/

@[simp] theorem State.updNm_pending (s : State) (f : Nm → Nm) : (s.updNm f).pending = s.pending := rfl
@[simp] theorem State.updNm_clk (s : State) (f : Nm → Nm) : (s.updNm f).clk = s.clk := rfl
@[simp] theorem State.updNm_supply (s : State) (f : Nm → Nm) : (s.updNm f).supply = s.supply := rfl
@[simp] theorem State.updNm_pwr (s : State) (f : Nm → Nm) : (s.updNm f).pwr = s.pwr := rfl
@[simp] theorem State.updNm_link (s : State) (f : Nm → Nm) : (s.updNm f).link = s.link := rfl
@[simp] theorem State.updNm_eng (s : State) (f : Nm → Nm) : (s.updNm f).eng = s.eng := rfl
@[simp] theorem State.updNm_vat (s : State) (f : Nm → Nm) : (s.updNm f).vat = s.vat := rfl
@[simp] theorem State.updNm_live (s : State) (f : Nm → Nm) : (s.updNm f).live = s.live := rfl
@[simp] theorem State.updNm_regs (s : State) (f : Nm → Nm) : (s.updNm f).regs = s.regs := rfl
@[simp] theorem State.updNm_svc (s : State) (f : Nm → Nm) : (s.updNm f).svc = s.svc := rfl
@[simp] theorem State.updNm_load (s : State) (f : Nm → Nm) : (s.updNm f).load = s.load := rfl
@[simp] theorem State.updNm_pins (s : State) (f : Nm → Nm) : (s.updNm f).pins = s.pins := rfl
@[simp] theorem State.updNm_therm (s : State) (f : Nm → Nm) : (s.updNm f).therm = s.therm := rfl
@[simp] theorem State.updNm_valve (s : State) (f : Nm → Nm) : (s.updNm f).valve = s.valve := rfl
@[simp] theorem State.updNm_port (s : State) (f : Nm → Nm) : (s.updNm f).port = s.port := rfl
@[simp] theorem State.updNm_contact (s : State) (f : Nm → Nm) : (s.updNm f).contact = s.contact := rfl
@[simp] theorem State.updNm_field (s : State) (f : Nm → Nm) : (s.updNm f).field = s.field := rfl
@[simp] theorem State.updNm_can (s : State) (f : Nm → Nm) : (s.updNm f).can = s.can := rfl
@[simp] theorem State.updNm_tickTsc (s : State) (f : Nm → Nm) : (s.updNm f).tickTsc = s.tickTsc := rfl
@[simp] theorem State.updNm_lin (s : State) (f : Nm → Nm) : (s.updNm f).lin = s.lin := rfl
@[simp] theorem State.updNm_t1s (s : State) (f : Nm → Nm) : (s.updNm f).t1s = s.t1s := rfl
@[simp] theorem State.updNm_tim (s : State) (f : Nm → Nm) : (s.updNm f).tim = s.tim := rfl
@[simp] theorem State.updNm_adj (s : State) (f : Nm → Nm) : (s.updNm f).adj = s.adj := rfl
@[simp] theorem State.updNm_acc (s : State) (f : Nm → Nm) : (s.updNm f).acc = s.acc := rfl
@[simp] theorem State.updNm_accEnd (s : State) (f : Nm → Nm) : (s.updNm f).accEnd = s.accEnd := rfl
@[simp] theorem State.updNm_app (s : State) (f : Nm → Nm) : (s.updNm f).app = s.app := rfl
@[simp] theorem State.updNm_appTodo (s : State) (f : Nm → Nm) : (s.updNm f).appTodo = s.appTodo := rfl
@[simp] theorem State.updNm_core (s : State) (f : Nm → Nm) : (s.updNm f).core = s.core := rfl
@[simp] theorem State.updNm_win (s : State) (f : Nm → Nm) : (s.updNm f).win = s.win := rfl
@[simp] theorem State.updNm_flt (s : State) (f : Nm → Nm) : (s.updNm f).flt = s.flt := rfl
@[simp] theorem State.updNm_mem (s : State) (f : Nm → Nm) : (s.updNm f).mem = s.mem := rfl
@[simp] theorem State.updNm_feat (s : State) (f : Nm → Nm) : (s.updNm f).feat = s.feat := rfl
@[simp] theorem State.updNm_latches (s : State) (f : Nm → Nm) : (s.updNm f).latches = s.latches := rfl
@[simp] theorem State.updNm_vatCfg (s : State) (f : Nm → Nm) : (s.updNm f).vatCfg = s.vatCfg := rfl
@[simp] theorem State.updNm_busOut (s : State) (f : Nm → Nm) : (s.updNm f).busOut = s.busOut := rfl
@[simp] theorem State.updNm_busEnd (s : State) (f : Nm → Nm) : (s.updNm f).busEnd = s.busEnd := rfl
@[simp] theorem State.updNm_evSeq (s : State) (f : Nm → Nm) : (s.updNm f).evSeq = s.evSeq := rfl
@[simp] theorem State.updNm_freeCtr (s : State) (f : Nm → Nm) : (s.updNm f).freeCtr = s.freeCtr := rfl

/-! ### State.updLink -/

@[simp] theorem State.updLink_pending (s : State) (f : Link → Link) : (s.updLink f).pending = s.pending := rfl
@[simp] theorem State.updLink_clk (s : State) (f : Link → Link) : (s.updLink f).clk = s.clk := rfl
@[simp] theorem State.updLink_supply (s : State) (f : Link → Link) : (s.updLink f).supply = s.supply := rfl
@[simp] theorem State.updLink_pwr (s : State) (f : Link → Link) : (s.updLink f).pwr = s.pwr := rfl
@[simp] theorem State.updLink_eng (s : State) (f : Link → Link) : (s.updLink f).eng = s.eng := rfl
@[simp] theorem State.updLink_vat (s : State) (f : Link → Link) : (s.updLink f).vat = s.vat := rfl
@[simp] theorem State.updLink_live (s : State) (f : Link → Link) : (s.updLink f).live = s.live := rfl
@[simp] theorem State.updLink_regs (s : State) (f : Link → Link) : (s.updLink f).regs = s.regs := rfl
@[simp] theorem State.updLink_svc (s : State) (f : Link → Link) : (s.updLink f).svc = s.svc := rfl
@[simp] theorem State.updLink_load (s : State) (f : Link → Link) : (s.updLink f).load = s.load := rfl
@[simp] theorem State.updLink_pins (s : State) (f : Link → Link) : (s.updLink f).pins = s.pins := rfl
@[simp] theorem State.updLink_therm (s : State) (f : Link → Link) : (s.updLink f).therm = s.therm := rfl
@[simp] theorem State.updLink_valve (s : State) (f : Link → Link) : (s.updLink f).valve = s.valve := rfl
@[simp] theorem State.updLink_port (s : State) (f : Link → Link) : (s.updLink f).port = s.port := rfl
@[simp] theorem State.updLink_contact (s : State) (f : Link → Link) : (s.updLink f).contact = s.contact := rfl
@[simp] theorem State.updLink_field (s : State) (f : Link → Link) : (s.updLink f).field = s.field := rfl
@[simp] theorem State.updLink_can (s : State) (f : Link → Link) : (s.updLink f).can = s.can := rfl
@[simp] theorem State.updLink_tickTsc (s : State) (f : Link → Link) : (s.updLink f).tickTsc = s.tickTsc := rfl
@[simp] theorem State.updLink_lin (s : State) (f : Link → Link) : (s.updLink f).lin = s.lin := rfl
@[simp] theorem State.updLink_t1s (s : State) (f : Link → Link) : (s.updLink f).t1s = s.t1s := rfl
@[simp] theorem State.updLink_tim (s : State) (f : Link → Link) : (s.updLink f).tim = s.tim := rfl
@[simp] theorem State.updLink_adj (s : State) (f : Link → Link) : (s.updLink f).adj = s.adj := rfl
@[simp] theorem State.updLink_nm (s : State) (f : Link → Link) : (s.updLink f).nm = s.nm := rfl
@[simp] theorem State.updLink_acc (s : State) (f : Link → Link) : (s.updLink f).acc = s.acc := rfl
@[simp] theorem State.updLink_accEnd (s : State) (f : Link → Link) : (s.updLink f).accEnd = s.accEnd := rfl
@[simp] theorem State.updLink_app (s : State) (f : Link → Link) : (s.updLink f).app = s.app := rfl
@[simp] theorem State.updLink_appTodo (s : State) (f : Link → Link) : (s.updLink f).appTodo = s.appTodo := rfl
@[simp] theorem State.updLink_core (s : State) (f : Link → Link) : (s.updLink f).core = s.core := rfl
@[simp] theorem State.updLink_win (s : State) (f : Link → Link) : (s.updLink f).win = s.win := rfl
@[simp] theorem State.updLink_flt (s : State) (f : Link → Link) : (s.updLink f).flt = s.flt := rfl
@[simp] theorem State.updLink_mem (s : State) (f : Link → Link) : (s.updLink f).mem = s.mem := rfl
@[simp] theorem State.updLink_feat (s : State) (f : Link → Link) : (s.updLink f).feat = s.feat := rfl
@[simp] theorem State.updLink_latches (s : State) (f : Link → Link) : (s.updLink f).latches = s.latches := rfl
@[simp] theorem State.updLink_vatCfg (s : State) (f : Link → Link) : (s.updLink f).vatCfg = s.vatCfg := rfl
@[simp] theorem State.updLink_busOut (s : State) (f : Link → Link) : (s.updLink f).busOut = s.busOut := rfl
@[simp] theorem State.updLink_busEnd (s : State) (f : Link → Link) : (s.updLink f).busEnd = s.busEnd := rfl
@[simp] theorem State.updLink_evSeq (s : State) (f : Link → Link) : (s.updLink f).evSeq = s.evSeq := rfl
@[simp] theorem State.updLink_freeCtr (s : State) (f : Link → Link) : (s.updLink f).freeCtr = s.freeCtr := rfl

/-! ### The part that State.updValve changes -/

@[simp] theorem State.updValve_valve_b (s : State) (n : Nat) (f : Valve → Valve) : (s.updValve n f).valve.b = s.valve.b := rfl
@[simp] theorem State.updValve_valve_boost (s : State) (n : Nat) (f : Valve → Valve) : (s.updValve n f).valve.boost = s.valve.boost := rfl
@[simp] theorem State.updValve_valve_vboost (s : State) (n : Nat) (f : Valve → Valve) : (s.updValve n f).valve.vboost = s.valve.vboost := rfl
@[simp] theorem State.updValve_valve_iin (s : State) (n : Nat) (f : Valve → Valve) : (s.updValve n f).valve.iin = s.valve.iin := rfl
@[simp] theorem State.updValve_valve_vbNow (s : State) (n : Nat) (f : Valve → Valve) : (s.updValve n f).valve.vbNow = s.valve.vbNow := rfl
@[simp] theorem State.updValve_valve_switching (s : State) (n : Nat) (f : Valve → Valve) : (s.updValve n f).valve.switching = s.valve.switching := rfl
@[simp] theorem State.updValve_valve_softFrom (s : State) (n : Nat) (f : Valve → Valve) : (s.updValve n f).valve.softFrom = s.valve.softFrom := rfl
@[simp] theorem State.updValve_valve_chargeAt (s : State) (n : Nat) (f : Valve → Valve) : (s.updValve n f).valve.chargeAt = s.valve.chargeAt := rfl
@[simp] theorem State.updValve_valve_dump (s : State) (n : Nat) (f : Valve → Valve) : (s.updValve n f).valve.dump = s.valve.dump := rfl
@[simp] theorem State.updValve_valve_cntNotReady (s : State) (n : Nat) (f : Valve → Valve) : (s.updValve n f).valve.cntNotReady = s.valve.cntNotReady := rfl
@[simp] theorem State.updValve_valve_cntOv (s : State) (n : Nat) (f : Valve → Valve) : (s.updValve n f).valve.cntOv = s.valve.cntOv := rfl
@[simp] theorem State.updValve_valve_cntFail (s : State) (n : Nat) (f : Valve → Valve) : (s.updValve n f).valve.cntFail = s.valve.cntFail := rfl
@[simp] theorem State.updValve_valve_queue (s : State) (n : Nat) (f : Valve → Valve) : (s.updValve n f).valve.queue = s.valve.queue := rfl
@[simp] theorem State.updValve_valve_entryHold (s : State) (n : Nat) (f : Valve → Valve) : (s.updValve n f).valve.entryHold = s.valve.entryHold := rfl

/-! ### The part that State.updBank changes -/

@[simp] theorem State.updBank_valve_v (s : State) (n : Nat) (f : Bank → Bank) : (s.updBank n f).valve.v = s.valve.v := rfl
@[simp] theorem State.updBank_valve_boost (s : State) (n : Nat) (f : Bank → Bank) : (s.updBank n f).valve.boost = s.valve.boost := rfl
@[simp] theorem State.updBank_valve_vboost (s : State) (n : Nat) (f : Bank → Bank) : (s.updBank n f).valve.vboost = s.valve.vboost := rfl
@[simp] theorem State.updBank_valve_iin (s : State) (n : Nat) (f : Bank → Bank) : (s.updBank n f).valve.iin = s.valve.iin := rfl
@[simp] theorem State.updBank_valve_vbNow (s : State) (n : Nat) (f : Bank → Bank) : (s.updBank n f).valve.vbNow = s.valve.vbNow := rfl
@[simp] theorem State.updBank_valve_switching (s : State) (n : Nat) (f : Bank → Bank) : (s.updBank n f).valve.switching = s.valve.switching := rfl
@[simp] theorem State.updBank_valve_softFrom (s : State) (n : Nat) (f : Bank → Bank) : (s.updBank n f).valve.softFrom = s.valve.softFrom := rfl
@[simp] theorem State.updBank_valve_chargeAt (s : State) (n : Nat) (f : Bank → Bank) : (s.updBank n f).valve.chargeAt = s.valve.chargeAt := rfl
@[simp] theorem State.updBank_valve_dump (s : State) (n : Nat) (f : Bank → Bank) : (s.updBank n f).valve.dump = s.valve.dump := rfl
@[simp] theorem State.updBank_valve_cntNotReady (s : State) (n : Nat) (f : Bank → Bank) : (s.updBank n f).valve.cntNotReady = s.valve.cntNotReady := rfl
@[simp] theorem State.updBank_valve_cntOv (s : State) (n : Nat) (f : Bank → Bank) : (s.updBank n f).valve.cntOv = s.valve.cntOv := rfl
@[simp] theorem State.updBank_valve_cntFail (s : State) (n : Nat) (f : Bank → Bank) : (s.updBank n f).valve.cntFail = s.valve.cntFail := rfl
@[simp] theorem State.updBank_valve_queue (s : State) (n : Nat) (f : Bank → Bank) : (s.updBank n f).valve.queue = s.valve.queue := rfl
@[simp] theorem State.updBank_valve_entryHold (s : State) (n : Nat) (f : Bank → Bank) : (s.updBank n f).valve.entryHold = s.valve.entryHold := rfl

/-! ### The part that State.updFio changes -/

@[simp] theorem State.updFio_field_st (s : State) (n : Nat) (f : Fio → Fio) : (s.updFio n f).field.st = s.field.st := rfl
@[simp] theorem State.updFio_field_since (s : State) (n : Nat) (f : Fio → Fio) : (s.updFio n f).field.since = s.field.since := rfl
@[simp] theorem State.updFio_field_locked (s : State) (n : Nat) (f : Fio → Fio) : (s.updFio n f).field.locked = s.field.locked := rfl
@[simp] theorem State.updFio_field_fv24State (s : State) (n : Nat) (f : Fio → Fio) : (s.updFio n f).field.fv24State = s.field.fv24State := rfl
@[simp] theorem State.updFio_field_relDue (s : State) (n : Nat) (f : Fio → Fio) : (s.updFio n f).field.relDue = s.field.relDue := rfl
@[simp] theorem State.updFio_field_lossCause (s : State) (n : Nat) (f : Fio → Fio) : (s.updFio n f).field.lossCause = s.field.lossCause := rfl
@[simp] theorem State.updFio_field_pwrRetries (s : State) (n : Nat) (f : Fio → Fio) : (s.updFio n f).field.pwrRetries = s.field.pwrRetries := rfl
@[simp] theorem State.updFio_field_pwrFaults (s : State) (n : Nat) (f : Fio → Fio) : (s.updFio n f).field.pwrFaults = s.field.pwrFaults := rfl
@[simp] theorem State.updFio_field_fv24 (s : State) (n : Nat) (f : Fio → Fio) : (s.updFio n f).field.fv24 = s.field.fv24 := rfl
@[simp] theorem State.updFio_field_fv24Min (s : State) (n : Nat) (f : Fio → Fio) : (s.updFio n f).field.fv24Min = s.field.fv24Min := rfl
@[simp] theorem State.updFio_field_crcDn (s : State) (n : Nat) (f : Fio → Fio) : (s.updFio n f).field.crcDn = s.field.crcDn := rfl
@[simp] theorem State.updFio_field_crcUp (s : State) (n : Nat) (f : Fio → Fio) : (s.updFio n f).field.crcUp = s.field.crcUp := rfl
@[simp] theorem State.updFio_field_losses (s : State) (n : Nat) (f : Fio → Fio) : (s.updFio n f).field.losses = s.field.losses := rfl
@[simp] theorem State.updFio_field_relocks (s : State) (n : Nat) (f : Fio → Fio) : (s.updFio n f).field.relocks = s.field.relocks := rfl
@[simp] theorem State.updFio_field_badRun (s : State) (n : Nat) (f : Fio → Fio) : (s.updFio n f).field.badRun = s.field.badRun := rfl
@[simp] theorem State.updFio_field_cplRun (s : State) (n : Nat) (f : Fio → Fio) : (s.updFio n f).field.cplRun = s.field.cplRun := rfl
@[simp] theorem State.updFio_field_badDn (s : State) (n : Nat) (f : Fio → Fio) : (s.updFio n f).field.badDn = s.field.badDn := rfl
@[simp] theorem State.updFio_field_goodUp (s : State) (n : Nat) (f : Fio → Fio) : (s.updFio n f).field.goodUp = s.field.goodUp := rfl
@[simp] theorem State.updFio_field_goodDn (s : State) (n : Nat) (f : Fio → Fio) : (s.updFio n f).field.goodDn = s.field.goodDn := rfl
@[simp] theorem State.updFio_field_configured (s : State) (n : Nat) (f : Fio → Fio) : (s.updFio n f).field.configured = s.field.configured := rfl
@[simp] theorem State.updFio_field_relock (s : State) (n : Nat) (f : Fio → Fio) : (s.updFio n f).field.relock = s.field.relock := rfl
@[simp] theorem State.updFio_field_serving (s : State) (n : Nat) (f : Fio → Fio) : (s.updFio n f).field.serving = s.field.serving := rfl
@[simp] theorem State.updFio_field_dnOff (s : State) (n : Nat) (f : Fio → Fio) : (s.updFio n f).field.dnOff = s.field.dnOff := rfl
@[simp] theorem State.updFio_field_lowRun (s : State) (n : Nat) (f : Fio → Fio) : (s.updFio n f).field.lowRun = s.field.lowRun := rfl
@[simp] theorem State.updFio_field_lostRun (s : State) (n : Nat) (f : Fio → Fio) : (s.updFio n f).field.lostRun = s.field.lostRun := rfl
@[simp] theorem State.updFio_field_overRun (s : State) (n : Nat) (f : Fio → Fio) : (s.updFio n f).field.overRun = s.field.overRun := rfl
@[simp] theorem State.updFio_field_warnOk (s : State) (n : Nat) (f : Fio → Fio) : (s.updFio n f).field.warnOk = s.field.warnOk := rfl
@[simp] theorem State.updFio_field_lostOk (s : State) (n : Nat) (f : Fio → Fio) : (s.updFio n f).field.lostOk = s.field.lostOk := rfl
@[simp] theorem State.updFio_field_overOk (s : State) (n : Nat) (f : Fio → Fio) : (s.updFio n f).field.overOk = s.field.overOk := rfl
@[simp] theorem State.updFio_field_iWarn (s : State) (n : Nat) (f : Fio → Fio) : (s.updFio n f).field.iWarn = s.field.iWarn := rfl
@[simp] theorem State.updFio_field_iLost (s : State) (n : Nat) (f : Fio → Fio) : (s.updFio n f).field.iLost = s.field.iLost := rfl
@[simp] theorem State.updFio_field_iOver (s : State) (n : Nat) (f : Fio → Fio) : (s.updFio n f).field.iOver = s.field.iOver := rfl
@[simp] theorem State.updFio_field_edge (s : State) (n : Nat) (f : Fio → Fio) : (s.updFio n f).field.edge = s.field.edge := rfl
@[simp] theorem State.updFio_field_snapFv24 (s : State) (n : Nat) (f : Fio → Fio) : (s.updFio n f).field.snapFv24 = s.field.snapFv24 := rfl
@[simp] theorem State.updFio_field_snapFv24State (s : State) (n : Nat) (f : Fio → Fio) : (s.updFio n f).field.snapFv24State = s.field.snapFv24State := rfl
@[simp] theorem State.updFio_field_snapRun (s : State) (n : Nat) (f : Fio → Fio) : (s.updFio n f).field.snapRun = s.field.snapRun := rfl
@[simp] theorem State.updFio_field_snapEdge (s : State) (n : Nat) (f : Fio → Fio) : (s.updFio n f).field.snapEdge = s.field.snapEdge := rfl

/-! ### The part that State.updTok changes -/

@[simp] theorem State.updTok_acc_session (s : State) (n : Nat) (f : TokenSlot → TokenSlot) : (s.updTok n f).acc.session = s.acc.session := rfl
@[simp] theorem State.updTok_acc_sessionEnd (s : State) (n : Nat) (f : TokenSlot → TokenSlot) : (s.updTok n f).acc.sessionEnd = s.acc.sessionEnd := rfl
@[simp] theorem State.updTok_acc_sessionT (s : State) (n : Nat) (f : TokenSlot → TokenSlot) : (s.updTok n f).acc.sessionT = s.acc.sessionT := rfl
@[simp] theorem State.updTok_acc_lastEnd (s : State) (n : Nat) (f : TokenSlot → TokenSlot) : (s.updTok n f).acc.lastEnd = s.acc.lastEnd := rfl
@[simp] theorem State.updTok_acc_doorD (s : State) (n : Nat) (f : TokenSlot → TokenSlot) : (s.updTok n f).acc.doorD = s.acc.doorD := rfl
@[simp] theorem State.updTok_acc_throttleEnd (s : State) (n : Nat) (f : TokenSlot → TokenSlot) : (s.updTok n f).acc.throttleEnd = s.acc.throttleEnd := rfl
@[simp] theorem State.updTok_acc_recent (s : State) (n : Nat) (f : TokenSlot → TokenSlot) : (s.updTok n f).acc.recent = s.acc.recent := rfl
@[simp] theorem State.updTok_acc_thrEntries (s : State) (n : Nat) (f : TokenSlot → TokenSlot) : (s.updTok n f).acc.thrEntries = s.acc.thrEntries := rfl
@[simp] theorem State.updTok_acc_thrFlag (s : State) (n : Nat) (f : TokenSlot → TokenSlot) : (s.updTok n f).acc.thrFlag = s.acc.thrFlag := rfl
@[simp] theorem State.updTok_acc_lockFlag (s : State) (n : Nat) (f : TokenSlot → TokenSlot) : (s.updTok n f).acc.lockFlag = s.acc.lockFlag := rfl
@[simp] theorem State.updTok_acc_cntValid (s : State) (n : Nat) (f : TokenSlot → TokenSlot) : (s.updTok n f).acc.cntValid = s.acc.cntValid := rfl
@[simp] theorem State.updTok_acc_cntInvalid (s : State) (n : Nat) (f : TokenSlot → TokenSlot) : (s.updTok n f).acc.cntInvalid = s.acc.cntInvalid := rfl
@[simp] theorem State.updTok_acc_cntCorrupt (s : State) (n : Nat) (f : TokenSlot → TokenSlot) : (s.updTok n f).acc.cntCorrupt = s.acc.cntCorrupt := rfl
@[simp] theorem State.updTok_acc_cntRepeat (s : State) (n : Nat) (f : TokenSlot → TokenSlot) : (s.updTok n f).acc.cntRepeat = s.acc.cntRepeat := rfl
@[simp] theorem State.updTok_acc_cntIgnored (s : State) (n : Nat) (f : TokenSlot → TokenSlot) : (s.updTok n f).acc.cntIgnored = s.acc.cntIgnored := rfl
@[simp] theorem State.updTok_acc_cntThrottled (s : State) (n : Nat) (f : TokenSlot → TokenSlot) : (s.updTok n f).acc.cntThrottled = s.acc.cntThrottled := rfl
@[simp] theorem State.updTok_acc_lfOk (s : State) (n : Nat) (f : TokenSlot → TokenSlot) : (s.updTok n f).acc.lfOk = s.acc.lfOk := rfl
@[simp] theorem State.updTok_acc_lfFail (s : State) (n : Nat) (f : TokenSlot → TokenSlot) : (s.updTok n f).acc.lfFail = s.acc.lfFail := rfl
@[simp] theorem State.updTok_acc_code (s : State) (n : Nat) (f : TokenSlot → TokenSlot) : (s.updTok n f).acc.code = s.acc.code := rfl
@[simp] theorem State.updTok_acc_dealerEnd (s : State) (n : Nat) (f : TokenSlot → TokenSlot) : (s.updTok n f).acc.dealerEnd = s.acc.dealerEnd := rfl
@[simp] theorem State.updTok_acc_wrong (s : State) (n : Nat) (f : TokenSlot → TokenSlot) : (s.updTok n f).acc.wrong = s.acc.wrong := rfl
@[simp] theorem State.updTok_acc_lockEnd (s : State) (n : Nat) (f : TokenSlot → TokenSlot) : (s.updTok n f).acc.lockEnd = s.acc.lockEnd := rfl
@[simp] theorem State.updTok_acc_writes (s : State) (n : Nat) (f : TokenSlot → TokenSlot) : (s.updTok n f).acc.writes = s.acc.writes := rfl
@[simp] theorem State.updTok_acc_keyWrites (s : State) (n : Nat) (f : TokenSlot → TokenSlot) : (s.updTok n f).acc.keyWrites = s.acc.keyWrites := rfl
@[simp] theorem State.updTok_acc_challenge (s : State) (n : Nat) (f : TokenSlot → TokenSlot) : (s.updTok n f).acc.challenge = s.acc.challenge := rfl
@[simp] theorem State.updTok_acc_log (s : State) (n : Nat) (f : TokenSlot → TokenSlot) : (s.updTok n f).acc.log = s.acc.log := rfl
@[simp] theorem State.updTok_acc_nextEvent (s : State) (n : Nat) (f : TokenSlot → TokenSlot) : (s.updTok n f).acc.nextEvent = s.acc.nextEvent := rfl
@[simp] theorem State.updTok_acc_uhfen (s : State) (n : Nat) (f : TokenSlot → TokenSlot) : (s.updTok n f).acc.uhfen = s.acc.uhfen := rfl
@[simp] theorem State.updTok_acc_uhfAt (s : State) (n : Nat) (f : TokenSlot → TokenSlot) : (s.updTok n f).acc.uhfAt = s.acc.uhfAt := rfl
@[simp] theorem State.updTok_acc_dealerTodo (s : State) (n : Nat) (f : TokenSlot → TokenSlot) : (s.updTok n f).acc.dealerTodo = s.acc.dealerTodo := rfl

/-! ### The part that State.updSrc changes -/

@[simp] theorem State.updSrc_flt_st (s : State) (n : Nat) (f : FaultSrc → FaultSrc) : (s.updSrc n f).flt.st = s.flt.st := rfl
@[simp] theorem State.updSrc_flt_safe (s : State) (n : Nat) (f : FaultSrc → FaultSrc) : (s.updSrc n f).flt.safe = s.flt.safe := rfl
@[simp] theorem State.updSrc_flt_fltnHold (s : State) (n : Nat) (f : FaultSrc → FaultSrc) : (s.updSrc n f).flt.fltnHold = s.flt.fltnHold := rfl
@[simp] theorem State.updSrc_flt_owed (s : State) (n : Nat) (f : FaultSrc → FaultSrc) : (s.updSrc n f).flt.owed = s.flt.owed := rfl
@[simp] theorem State.updSrc_flt_scopeBlock (s : State) (n : Nat) (f : FaultSrc → FaultSrc) : (s.updSrc n f).flt.scopeBlock = s.flt.scopeBlock := rfl
@[simp] theorem State.updSrc_flt_rblock (s : State) (n : Nat) (f : FaultSrc → FaultSrc) : (s.updSrc n f).flt.rblock = s.flt.rblock := rfl
@[simp] theorem State.updSrc_flt_declared (s : State) (n : Nat) (f : FaultSrc → FaultSrc) : (s.updSrc n f).flt.declared = s.flt.declared := rfl
@[simp] theorem State.updSrc_flt_cause (s : State) (n : Nat) (f : FaultSrc → FaultSrc) : (s.updSrc n f).flt.cause = s.flt.cause := rfl
@[simp] theorem State.updSrc_flt_recoveries (s : State) (n : Nat) (f : FaultSrc → FaultSrc) : (s.updSrc n f).flt.recoveries = s.flt.recoveries := rfl
@[simp] theorem State.updSrc_flt_quietFrom (s : State) (n : Nat) (f : FaultSrc → FaultSrc) : (s.updSrc n f).flt.quietFrom = s.flt.quietFrom := rfl
@[simp] theorem State.updSrc_flt_lastChip (s : State) (n : Nat) (f : FaultSrc → FaultSrc) : (s.updSrc n f).flt.lastChip = s.flt.lastChip := rfl
@[simp] theorem State.updSrc_flt_first (s : State) (n : Nat) (f : FaultSrc → FaultSrc) : (s.updSrc n f).flt.first = s.flt.first := rfl
@[simp] theorem State.updSrc_flt_firstSet (s : State) (n : Nat) (f : FaultSrc → FaultSrc) : (s.updSrc n f).flt.firstSet = s.flt.firstSet := rfl
@[simp] theorem State.updSrc_flt_held (s : State) (n : Nat) (f : FaultSrc → FaultSrc) : (s.updSrc n f).flt.held = s.flt.held := rfl
@[simp] theorem State.updSrc_flt_test (s : State) (n : Nat) (f : FaultSrc → FaultSrc) : (s.updSrc n f).flt.test = s.flt.test := rfl
@[simp] theorem State.updSrc_flt_sampSafe (s : State) (n : Nat) (f : FaultSrc → FaultSrc) : (s.updSrc n f).flt.sampSafe = s.flt.sampSafe := rfl
@[simp] theorem State.updSrc_flt_pubSafe (s : State) (n : Nat) (f : FaultSrc → FaultSrc) : (s.updSrc n f).flt.pubSafe = s.flt.pubSafe := rfl

/-! ### The part that State.updCl changes -/

@[simp] theorem State.updCl_therm_fast (s : State) (n : Nat) (f : Cluster → Cluster) : (s.updCl n f).therm.fast = s.therm.fast := rfl
@[simp] theorem State.updCl_therm_pUnit (s : State) (n : Nat) (f : Cluster → Cluster) : (s.updCl n f).therm.pUnit = s.therm.pUnit := rfl
@[simp] theorem State.updCl_therm_refuse0 (s : State) (n : Nat) (f : Cluster → Cluster) : (s.updCl n f).therm.refuse0 = s.therm.refuse0 := rfl
@[simp] theorem State.updCl_therm_refuse1 (s : State) (n : Nat) (f : Cluster → Cluster) : (s.updCl n f).therm.refuse1 = s.therm.refuse1 := rfl
@[simp] theorem State.updCl_therm_refuse2 (s : State) (n : Nat) (f : Cluster → Cluster) : (s.updCl n f).therm.refuse2 = s.therm.refuse2 := rfl
@[simp] theorem State.updCl_therm_refCmd (s : State) (n : Nat) (f : Cluster → Cluster) : (s.updCl n f).therm.refCmd = s.therm.refCmd := rfl
@[simp] theorem State.updCl_therm_refRel (s : State) (n : Nat) (f : Cluster → Cluster) : (s.updCl n f).therm.refRel = s.therm.refRel := rfl

@[simp] theorem State.updField_field (s : State) (f : Field → Field) : (s.updField f).field = f s.field := rfl
@[simp] theorem State.updMem_mem (s : State) (f : Mem → Mem) : (s.updMem f).mem = f s.mem := rfl
@[simp] theorem State.updNm_nm (s : State) (f : Nm → Nm) : (s.updNm f).nm = f s.nm := rfl
@[simp] theorem State.updLink_link (s : State) (f : Link → Link) : (s.updLink f).link = f s.link := rfl

/-! ### A unit after an update of one -/

theorem State.updLoad_ch (s : State) (n m : Nat) (f : LoadCh → LoadCh) :
    (s.updLoad n f).ch m = if n = m ∧ n < 48 then f (s.ch m) else s.ch m := vget_vupd _ _ _ _
@[simp] theorem State.updLoad_ch_self (s : State) (n : Nat) (f : LoadCh → LoadCh) (h : n < 48) :
    (s.updLoad n f).ch n = f (s.ch n) := vget_vupd_self _ _ _ h
@[simp] theorem State.updLoad_ch_ne (s : State) (n m : Nat) (f : LoadCh → LoadCh) (h : n ≠ m) :
    (s.updLoad n f).ch m = s.ch m := vget_vupd_ne _ _ _ _ h
theorem State.updValve_vl (s : State) (n m : Nat) (f : Valve → Valve) :
    (s.updValve n f).vl m = if n = m ∧ n < 8 then f (s.vl m) else s.vl m := vget_vupd _ _ _ _
@[simp] theorem State.updValve_vl_self (s : State) (n : Nat) (f : Valve → Valve) (h : n < 8) :
    (s.updValve n f).vl n = f (s.vl n) := vget_vupd_self _ _ _ h
@[simp] theorem State.updValve_vl_ne (s : State) (n m : Nat) (f : Valve → Valve) (h : n ≠ m) :
    (s.updValve n f).vl m = s.vl m := vget_vupd_ne _ _ _ _ h
theorem State.updBank_vb (s : State) (n m : Nat) (f : Bank → Bank) :
    (s.updBank n f).vb m = if n = m ∧ n < 4 then f (s.vb m) else s.vb m := vget_vupd _ _ _ _
@[simp] theorem State.updBank_vb_self (s : State) (n : Nat) (f : Bank → Bank) (h : n < 4) :
    (s.updBank n f).vb n = f (s.vb n) := vget_vupd_self _ _ _ h
@[simp] theorem State.updBank_vb_ne (s : State) (n m : Nat) (f : Bank → Bank) (h : n ≠ m) :
    (s.updBank n f).vb m = s.vb m := vget_vupd_ne _ _ _ _ h
theorem State.updPort_si (s : State) (n m : Nat) (f : Port → Port) :
    (s.updPort n f).si m = if n = m ∧ n < 64 then f (s.si m) else s.si m := vget_vupd _ _ _ _
@[simp] theorem State.updPort_si_self (s : State) (n : Nat) (f : Port → Port) (h : n < 64) :
    (s.updPort n f).si n = f (s.si n) := vget_vupd_self _ _ _ h
@[simp] theorem State.updPort_si_ne (s : State) (n m : Nat) (f : Port → Port) (h : n ≠ m) :
    (s.updPort n f).si m = s.si m := vget_vupd_ne _ _ _ _ h
theorem State.updFio_fio (s : State) (n m : Nat) (f : Fio → Fio) :
    (s.updFio n f).fio m = if n = m ∧ n < 16 then f (s.fio m) else s.fio m := vget_vupd _ _ _ _
@[simp] theorem State.updFio_fio_self (s : State) (n : Nat) (f : Fio → Fio) (h : n < 16) :
    (s.updFio n f).fio n = f (s.fio n) := vget_vupd_self _ _ _ h
@[simp] theorem State.updFio_fio_ne (s : State) (n m : Nat) (f : Fio → Fio) (h : n ≠ m) :
    (s.updFio n f).fio m = s.fio m := vget_vupd_ne _ _ _ _ h
theorem State.updCan_canc (s : State) (n m : Nat) (f : Can → Can) :
    (s.updCan n f).canc m = if n = m ∧ n < 4 then f (s.canc m) else s.canc m := vget_vupd _ _ _ _
@[simp] theorem State.updCan_canc_self (s : State) (n : Nat) (f : Can → Can) (h : n < 4) :
    (s.updCan n f).canc n = f (s.canc n) := vget_vupd_self _ _ _ h
@[simp] theorem State.updCan_canc_ne (s : State) (n m : Nat) (f : Can → Can) (h : n ≠ m) :
    (s.updCan n f).canc m = s.canc m := vget_vupd_ne _ _ _ _ h
theorem State.updLin_linc (s : State) (n m : Nat) (f : Lin → Lin) :
    (s.updLin n f).linc m = if n = m ∧ n < 6 then f (s.linc m) else s.linc m := vget_vupd _ _ _ _
@[simp] theorem State.updLin_linc_self (s : State) (n : Nat) (f : Lin → Lin) (h : n < 6) :
    (s.updLin n f).linc n = f (s.linc n) := vget_vupd_self _ _ _ h
@[simp] theorem State.updLin_linc_ne (s : State) (n m : Nat) (f : Lin → Lin) (h : n ≠ m) :
    (s.updLin n f).linc m = s.linc m := vget_vupd_ne _ _ _ _ h
theorem State.updT1s_ts (s : State) (n m : Nat) (f : T1s → T1s) :
    (s.updT1s n f).ts m = if n = m ∧ n < 2 then f (s.ts m) else s.ts m := vget_vupd _ _ _ _
@[simp] theorem State.updT1s_ts_self (s : State) (n : Nat) (f : T1s → T1s) (h : n < 2) :
    (s.updT1s n f).ts n = f (s.ts n) := vget_vupd_self _ _ _ h
@[simp] theorem State.updT1s_ts_ne (s : State) (n m : Nat) (f : T1s → T1s) (h : n ≠ m) :
    (s.updT1s n f).ts m = s.ts m := vget_vupd_ne _ _ _ _ h
theorem State.updSlot_slot (s : State) (n m : Nat) (f : AppSlot → AppSlot) :
    (s.updSlot n f).slot m = if n = m ∧ n < 8 then f (s.slot m) else s.slot m := vget_vupd _ _ _ _
@[simp] theorem State.updSlot_slot_self (s : State) (n : Nat) (f : AppSlot → AppSlot) (h : n < 8) :
    (s.updSlot n f).slot n = f (s.slot n) := vget_vupd_self _ _ _ h
@[simp] theorem State.updSlot_slot_ne (s : State) (n m : Nat) (f : AppSlot → AppSlot) (h : n ≠ m) :
    (s.updSlot n f).slot m = s.slot m := vget_vupd_ne _ _ _ _ h
theorem State.updTok_tok (s : State) (n m : Nat) (f : TokenSlot → TokenSlot) :
    (s.updTok n f).tok m = if n = m ∧ n < 8 then f (s.tok m) else s.tok m := vget_vupd _ _ _ _
@[simp] theorem State.updTok_tok_self (s : State) (n : Nat) (f : TokenSlot → TokenSlot) (h : n < 8) :
    (s.updTok n f).tok n = f (s.tok n) := vget_vupd_self _ _ _ h
@[simp] theorem State.updTok_tok_ne (s : State) (n m : Nat) (f : TokenSlot → TokenSlot) (h : n ≠ m) :
    (s.updTok n f).tok m = s.tok m := vget_vupd_ne _ _ _ _ h
theorem State.updSrc_src (s : State) (n m : Nat) (f : FaultSrc → FaultSrc) :
    (s.updSrc n f).src m = if n = m ∧ n < 96 then f (s.src m) else s.src m := vget_vupd _ _ _ _
@[simp] theorem State.updSrc_src_self (s : State) (n : Nat) (f : FaultSrc → FaultSrc) (h : n < 96) :
    (s.updSrc n f).src n = f (s.src n) := vget_vupd_self _ _ _ h
@[simp] theorem State.updSrc_src_ne (s : State) (n m : Nat) (f : FaultSrc → FaultSrc) (h : n ≠ m) :
    (s.updSrc n f).src m = s.src m := vget_vupd_ne _ _ _ _ h
theorem State.updCl_cl (s : State) (n m : Nat) (f : Cluster → Cluster) :
    (s.updCl n f).cl m = if n = m ∧ n < 16 then f (s.cl m) else s.cl m := vget_vupd _ _ _ _
@[simp] theorem State.updCl_cl_self (s : State) (n : Nat) (f : Cluster → Cluster) (h : n < 16) :
    (s.updCl n f).cl n = f (s.cl n) := vget_vupd_self _ _ _ h
@[simp] theorem State.updCl_cl_ne (s : State) (n m : Nat) (f : Cluster → Cluster) (h : n ≠ m) :
    (s.updCl n f).cl m = s.cl m := vget_vupd_ne _ _ _ _ h

/-! ### State.atPhase -/

@[simp] theorem State.atPhase_pending (s : State) (c : Nat) : (s.atPhase c).pending = s.pending := rfl
@[simp] theorem State.atPhase_supply (s : State) (c : Nat) : (s.atPhase c).supply = s.supply := rfl
@[simp] theorem State.atPhase_pwr (s : State) (c : Nat) : (s.atPhase c).pwr = s.pwr := rfl
@[simp] theorem State.atPhase_link (s : State) (c : Nat) : (s.atPhase c).link = s.link := rfl
@[simp] theorem State.atPhase_eng (s : State) (c : Nat) : (s.atPhase c).eng = s.eng := rfl
@[simp] theorem State.atPhase_vat (s : State) (c : Nat) : (s.atPhase c).vat = s.vat := rfl
@[simp] theorem State.atPhase_live (s : State) (c : Nat) : (s.atPhase c).live = s.live := rfl
@[simp] theorem State.atPhase_regs (s : State) (c : Nat) : (s.atPhase c).regs = s.regs := rfl
@[simp] theorem State.atPhase_svc (s : State) (c : Nat) : (s.atPhase c).svc = s.svc := rfl
@[simp] theorem State.atPhase_load (s : State) (c : Nat) : (s.atPhase c).load = s.load := rfl
@[simp] theorem State.atPhase_pins (s : State) (c : Nat) : (s.atPhase c).pins = s.pins := rfl
@[simp] theorem State.atPhase_therm (s : State) (c : Nat) : (s.atPhase c).therm = s.therm := rfl
@[simp] theorem State.atPhase_valve (s : State) (c : Nat) : (s.atPhase c).valve = s.valve := rfl
@[simp] theorem State.atPhase_port (s : State) (c : Nat) : (s.atPhase c).port = s.port := rfl
@[simp] theorem State.atPhase_contact (s : State) (c : Nat) : (s.atPhase c).contact = s.contact := rfl
@[simp] theorem State.atPhase_field (s : State) (c : Nat) : (s.atPhase c).field = s.field := rfl
@[simp] theorem State.atPhase_can (s : State) (c : Nat) : (s.atPhase c).can = s.can := rfl
@[simp] theorem State.atPhase_tickTsc (s : State) (c : Nat) : (s.atPhase c).tickTsc = s.tickTsc := rfl
@[simp] theorem State.atPhase_lin (s : State) (c : Nat) : (s.atPhase c).lin = s.lin := rfl
@[simp] theorem State.atPhase_t1s (s : State) (c : Nat) : (s.atPhase c).t1s = s.t1s := rfl
@[simp] theorem State.atPhase_tim (s : State) (c : Nat) : (s.atPhase c).tim = s.tim := rfl
@[simp] theorem State.atPhase_adj (s : State) (c : Nat) : (s.atPhase c).adj = s.adj := rfl
@[simp] theorem State.atPhase_nm (s : State) (c : Nat) : (s.atPhase c).nm = s.nm := rfl
@[simp] theorem State.atPhase_acc (s : State) (c : Nat) : (s.atPhase c).acc = s.acc := rfl
@[simp] theorem State.atPhase_accEnd (s : State) (c : Nat) : (s.atPhase c).accEnd = s.accEnd := rfl
@[simp] theorem State.atPhase_app (s : State) (c : Nat) : (s.atPhase c).app = s.app := rfl
@[simp] theorem State.atPhase_appTodo (s : State) (c : Nat) : (s.atPhase c).appTodo = s.appTodo := rfl
@[simp] theorem State.atPhase_core (s : State) (c : Nat) : (s.atPhase c).core = s.core := rfl
@[simp] theorem State.atPhase_win (s : State) (c : Nat) : (s.atPhase c).win = s.win := rfl
@[simp] theorem State.atPhase_flt (s : State) (c : Nat) : (s.atPhase c).flt = s.flt := rfl
@[simp] theorem State.atPhase_mem (s : State) (c : Nat) : (s.atPhase c).mem = s.mem := rfl
@[simp] theorem State.atPhase_feat (s : State) (c : Nat) : (s.atPhase c).feat = s.feat := rfl
@[simp] theorem State.atPhase_latches (s : State) (c : Nat) : (s.atPhase c).latches = s.latches := rfl
@[simp] theorem State.atPhase_vatCfg (s : State) (c : Nat) : (s.atPhase c).vatCfg = s.vatCfg := rfl
@[simp] theorem State.atPhase_busOut (s : State) (c : Nat) : (s.atPhase c).busOut = s.busOut := rfl
@[simp] theorem State.atPhase_busEnd (s : State) (c : Nat) : (s.atPhase c).busEnd = s.busEnd := rfl
@[simp] theorem State.atPhase_freeCtr (s : State) (c : Nat) : (s.atPhase c).freeCtr = s.freeCtr := rfl
@[simp] theorem State.atPhase_clk_tickNs (s : State) (c : Nat) : (s.atPhase c).clk.tickNs = s.clk.tickNs := rfl
@[simp] theorem State.atPhase_clk_tickCount (s : State) (c : Nat) : (s.atPhase c).clk.tickCount = s.clk.tickCount := rfl
@[simp] theorem State.atPhase_clk_epoch (s : State) (c : Nat) : (s.atPhase c).clk.epoch = s.clk.epoch := rfl
@[simp] theorem State.atPhase_clk_tickSel (s : State) (c : Nat) : (s.atPhase c).clk.tickSel = s.clk.tickSel := rfl
@[simp] theorem State.atPhase_clk_nextSel (s : State) (c : Nat) : (s.atPhase c).clk.nextSel = s.clk.nextSel := rfl
@[simp] theorem State.atPhase_clk_xclkSel (s : State) (c : Nat) : (s.atPhase c).clk.xclkSel = s.clk.xclkSel := rfl
@[simp] theorem State.atPhase_clk_src (s : State) (c : Nat) : (s.atPhase c).clk.src = s.clk.src := rfl
@[simp] theorem State.atPhase_clk_pllLock (s : State) (c : Nat) : (s.atPhase c).clk.pllLock = s.clk.pllLock := rfl
@[simp] theorem State.atPhase_clk_xclkOk (s : State) (c : Nat) : (s.atPhase c).clk.xclkOk = s.clk.xclkOk := rfl
@[simp] theorem State.atPhase_clk_rampExp (s : State) (c : Nat) : (s.atPhase c).clk.rampExp = s.clk.rampExp := rfl
@[simp] theorem State.atPhase_clk_rampDir (s : State) (c : Nat) : (s.atPhase c).clk.rampDir = s.clk.rampDir := rfl
@[simp] theorem State.atPhase_clk_failOver (s : State) (c : Nat) : (s.atPhase c).clk.failOver = s.clk.failOver := rfl
@[simp] theorem State.atPhase_clk_slipDue (s : State) (c : Nat) : (s.atPhase c).clk.slipDue = s.clk.slipDue := rfl
@[simp] theorem State.atPhase_clk_lastCount (s : State) (c : Nat) : (s.atPhase c).clk.lastCount = s.clk.lastCount := rfl
@[simp] theorem State.atPhase_clk_failWin (s : State) (c : Nat) : (s.atPhase c).clk.failWin = s.clk.failWin := rfl
@[simp] theorem State.atPhase_clk_parkHz (s : State) (c : Nat) : (s.atPhase c).clk.parkHz = s.clk.parkHz := rfl
@[simp] theorem State.atPhase_clk_rackTime (s : State) (c : Nat) : (s.atPhase c).clk.rackTime = s.clk.rackTime := rfl
@[simp] theorem State.atPhase_clk_rackMax (s : State) (c : Nat) : (s.atPhase c).clk.rackMax = s.clk.rackMax := rfl
@[simp] theorem State.atPhase_clk_overrun (s : State) (c : Nat) : (s.atPhase c).clk.overrun = s.clk.overrun := rfl
@[simp] theorem State.atPhase_clk_slip (s : State) (c : Nat) : (s.atPhase c).clk.slip = s.clk.slip := rfl
@[simp] theorem State.atPhase_clk_gated (s : State) (c : Nat) : (s.atPhase c).clk.gated = s.clk.gated := rfl
@[simp] theorem State.atPhase_clk_gateWait (s : State) (c : Nat) : (s.atPhase c).clk.gateWait = s.clk.gateWait := rfl
@[simp] theorem State.atPhase_clk_slipSum (s : State) (c : Nat) : (s.atPhase c).clk.slipSum = s.clk.slipSum := rfl
@[simp] theorem State.atPhase_clk_badWin (s : State) (c : Nat) : (s.atPhase c).clk.badWin = s.clk.badWin := rfl
@[simp] theorem State.atPhase_clk_reload (s : State) (c : Nat) : (s.atPhase c).clk.reload = s.clk.reload := rfl
@[simp] theorem State.atPhase_clk_snapSeq (s : State) (c : Nat) : (s.atPhase c).clk.snapSeq = s.clk.snapSeq := rfl
@[simp] theorem State.atPhase_clk_sampled (s : State) (c : Nat) : (s.atPhase c).clk.sampled = s.clk.sampled := rfl
@[simp] theorem State.atPhase_clk_loadRst (s : State) (c : Nat) : (s.atPhase c).clk.loadRst = s.clk.loadRst := rfl
@[simp] theorem State.atPhase_var (s : State) (c : Nat) : (s.atPhase c).var = s.var := rfl
@[simp] theorem State.atPhase_tbStands (s : State) (c : Nat) : (s.atPhase c).tbStands = s.tbStands := rfl
@[simp] theorem State.atPhase_running (s : State) (c : Nat) : (s.atPhase c).running = s.running := rfl
@[simp] theorem State.atPhase_inRun (s : State) (c : Nat) : (s.atPhase c).inRun = s.inRun := rfl
@[simp] theorem State.atPhase_holdOff (s : State) (c : Nat) : (s.atPhase c).holdOff = s.holdOff := rfl
@[simp] theorem State.atPhase_region (s : State) (c : Nat) : (s.atPhase c).region = s.region := rfl
@[simp] theorem State.atPhase_period (s : State) (c : Nat) : (s.atPhase c).period = s.period := rfl
@[simp] theorem State.atPhase_loads (s : State) (c : Nat) : (s.atPhase c).loads = s.loads := rfl
@[simp] theorem State.atPhase_valves (s : State) (c : Nat) : (s.atPhase c).valves = s.valves := rfl
@[simp] theorem State.atPhase_banks (s : State) (c : Nat) : (s.atPhase c).banks = s.banks := rfl
@[simp] theorem State.atPhase_fios (s : State) (c : Nat) : (s.atPhase c).fios = s.fios := rfl
@[simp] theorem State.atPhase_cans (s : State) (c : Nat) : (s.atPhase c).cans = s.cans := rfl
@[simp] theorem State.atPhase_lins (s : State) (c : Nat) : (s.atPhase c).lins = s.lins := rfl
@[simp] theorem State.atPhase_ports (s : State) (c : Nat) : (s.atPhase c).ports = s.ports := rfl
@[simp] theorem State.atPhase_units (s : State) (c : Nat) : (s.atPhase c).units = s.units := rfl
@[simp] theorem State.atPhase_reg (s : State) (c : Nat) (a : Nat) : (s.atPhase c).reg a = s.reg a := rfl
@[simp] theorem State.atPhase_cfg (s : State) (c : Nat) (a l w : Nat) : (s.atPhase c).cfg a l w = s.cfg a l w := rfl
@[simp] theorem State.atPhase_cfgBit (s : State) (c : Nat) (a m : Nat) : (s.atPhase c).cfgBit a m = s.cfgBit a m := rfl
@[simp] theorem State.atPhase_stored (s : State) (c : Nat) (a : Nat) : (s.atPhase c).stored a = s.stored a := rfl
@[simp] theorem State.atPhase_ch (s : State) (c : Nat) (m : Nat) : (s.atPhase c).ch m = s.ch m := rfl
@[simp] theorem State.atPhase_vl (s : State) (c : Nat) (m : Nat) : (s.atPhase c).vl m = s.vl m := rfl
@[simp] theorem State.atPhase_vb (s : State) (c : Nat) (m : Nat) : (s.atPhase c).vb m = s.vb m := rfl
@[simp] theorem State.atPhase_si (s : State) (c : Nat) (m : Nat) : (s.atPhase c).si m = s.si m := rfl
@[simp] theorem State.atPhase_fio (s : State) (c : Nat) (m : Nat) : (s.atPhase c).fio m = s.fio m := rfl
@[simp] theorem State.atPhase_canc (s : State) (c : Nat) (m : Nat) : (s.atPhase c).canc m = s.canc m := rfl
@[simp] theorem State.atPhase_linc (s : State) (c : Nat) (m : Nat) : (s.atPhase c).linc m = s.linc m := rfl
@[simp] theorem State.atPhase_ts (s : State) (c : Nat) (m : Nat) : (s.atPhase c).ts m = s.ts m := rfl
@[simp] theorem State.atPhase_slot (s : State) (c : Nat) (m : Nat) : (s.atPhase c).slot m = s.slot m := rfl
@[simp] theorem State.atPhase_tok (s : State) (c : Nat) (m : Nat) : (s.atPhase c).tok m = s.tok m := rfl
@[simp] theorem State.atPhase_src (s : State) (c : Nat) (m : Nat) : (s.atPhase c).src m = s.src m := rfl
@[simp] theorem State.atPhase_cl (s : State) (c : Nat) (m : Nat) : (s.atPhase c).cl m = s.cl m := rfl

/-! ### The end of a meaning -/

/-- Every meaning answers a next state: its effect, with the queue and the fuses as they were. -/
theorem State.done_eq (s t : State) :
    s.done t = .next { t with pending := s.pending, feat := { t.feat with variant := s.feat.variant } } := rfl

/-- A meaning whose effect leaves the queue and the fuses alone answers exactly its effect. -/
theorem State.done_of_eq (s t : State) (hp : t.pending = s.pending) (hv : t.feat.variant = s.feat.variant) :
    s.done t = .next t := by
  unfold State.done
  rw [← hp, ← hv]

end Sys2Proof.Machine
end

