-- ==== Sys2Proof/Laws/Faults.lean ====
section
/-! SUPPORT. The fault collector: counting events changes the collector alone where no source is set to a
reaction above INTERRUPT. -/

namespace Sys2Proof.Machine

/-- t differs from s in the fault collector alone. -/
def State.OnlyFlt (s t : State) : Prop := t = { s with flt := t.flt }

theorem State.OnlyFlt.refl (s : State) : s.OnlyFlt s := rfl

theorem State.OnlyFlt.trans {s t u : State} (h : s.OnlyFlt t) (g : t.OnlyFlt u) : s.OnlyFlt u := by
  unfold State.OnlyFlt at *
  rw [g, h]

theorem State.onlyFlt_of (s : State) (f : Flt) : s.OnlyFlt { s with flt := f } := rfl

theorem State.OnlyFlt.faultReact {s t : State} (h : s.OnlyFlt t) (i : Nat) : t.faultReact i = s.faultReact i := by
  rw [h]
  rfl

theorem State.updSrc_onlyFlt (s : State) (i : Nat) (f : FaultSrc → FaultSrc) : s.OnlyFlt (s.updSrc i f) := rfl

/-- A capture writes the collector alone (R431). -/
theorem State.capture_onlyFlt (s : State) (ev : FEvent) : s.OnlyFlt (s.capture ev) := by
  unfold State.capture
  dsimp only
  split <;> split <;> rfl

/-- Counting an event writes the collector alone (R429). -/
theorem State.countEvent_onlyFlt (s : State) (ev : FEvent) : s.OnlyFlt (s.countEvent ev).1 := by
  unfold State.countEvent
  exact (s.capture_onlyFlt ev).trans (State.updSrc_onlyFlt _ _ _)

theorem State.notifySevere_onlyFlt (s : State) (i : Nat) : s.OnlyFlt (s.notifySevere i) := by
  unfold State.notifySevere
  dsimp only
  split <;> split <;> rfl

theorem State.qualify_onlyFlt (s : State) (ev : FEvent) : s.OnlyFlt (s.qualify ev) := by
  unfold State.qualify
  split <;> rfl

theorem State.holdEvents_onlyFlt (s : State) (l : List FEvent) : s.OnlyFlt (s.holdEvents l) := rfl

/-- With no source of the list above INTERRUPT there is no reaction (R432). -/
theorem State.react_mild (s : State) (l : List FEvent) (h : ∀ ev ∈ l, fixedReact ev.src = none → s.faultReact ev.src ≤ 1) :
    s.react l = s := by
  have hf : ∀ n, 2 ≤ n → ((l.filter (fun ev => (fixedReact ev.src).isNone)).filter
      (fun ev => s.faultReact ev.src == n)) = [] := by
    intro n hn
    rw [List.filter_eq_nil_iff]
    intro ev hev
    have := h ev (List.mem_filter.1 hev).1 (by simpa using (List.mem_filter.1 hev).2)
    simp only [beq_iff_eq]
    omega
  have h4 : (l.filter (fun ev => (fixedReact ev.src).isNone)).find? (fun ev => s.faultReact ev.src == 4) = none := by
    rw [List.find?_eq_none]
    intro ev hev
    have := h ev (List.mem_filter.1 hev).1 (by simpa using (List.mem_filter.1 hev).2)
    simp only [beq_iff_eq]
    omega
  unfold State.react
  simp only [h4, hf 3 (by omega), hf 2 (by omega), List.foldl_nil, ite_self]

theorem State.countEvents_fold (l : List FEvent) (s : State) (acc : List FEvent) :
    let r := l.foldl (fun (p : State × List FEvent) ev =>
      if srcReserved ev.src then p
      else
        let q := (p.1.qualify ev).countEvent ev
        if q.2 then (q.1.notifySevere ev.src, p.2 ++ [ev]) else (q.1, p.2)) (s, acc)
    s.OnlyFlt r.1 ∧ ∀ ev ∈ r.2, ev ∈ acc ∨ (ev ∈ l ∧ ev.src < 0x5E) := by
  induction l generalizing s acc with
  | nil => exact ⟨rfl, fun ev h => .inl h⟩
  | cons e r ih =>
      simp only [List.foldl_cons]
      split
      · have := ih s acc
        exact ⟨this.1, fun ev h => (this.2 ev h).imp_right (fun h => ⟨List.mem_cons_of_mem _ h.1, h.2⟩)⟩
      · have he : e.src < 0x5E := by simp_all [srcReserved]
        split
        · have := ih (((s.qualify e).countEvent e).1.notifySevere e.src) (acc ++ [e])
          refine ⟨(((s.qualify_onlyFlt e).trans ((s.qualify e).countEvent_onlyFlt e)).trans
            (State.notifySevere_onlyFlt _ _)).trans this.1, fun ev h => ?_⟩
          rcases this.2 ev h with h | h
          · rcases List.mem_append.1 h with h | h
            · exact .inl h
            · rw [List.mem_singleton] at h
              exact .inr (h ▸ ⟨List.mem_cons_self .., h ▸ he⟩)
          · exact .inr ⟨List.mem_cons_of_mem _ h.1, h.2⟩
        · have := ih ((s.qualify e).countEvent e).1 acc
          exact ⟨((s.qualify_onlyFlt e).trans ((s.qualify e).countEvent_onlyFlt e)).trans this.1,
            fun ev h => (this.2 ev h).imp_right (fun h => ⟨List.mem_cons_of_mem _ h.1, h.2⟩)⟩

theorem State.countEvents_onlyFlt (s : State) (l : List FEvent) (h : ∀ i, i < 0x5E → fixedReact i = none → s.faultReact i ≤ 1) :
    s.OnlyFlt (s.countEvents l) := by
  unfold State.countEvents
  have := State.countEvents_fold l s []
  refine this.1.trans ?_
  rw [State.react_mild _ _ (fun ev hv => by
    rw [this.1.faultReact]
    have h2 := this.2 ev hv
    exact h _ (by simpa using (h2.resolve_left (by simp)).2))]
  exact State.OnlyFlt.refl _

/-- Counting the events of ends of peaks writes the collector alone under the same condition. -/
theorem State.countOwed_onlyFlt (s : State) (h : ∀ i, i < 0x5E → fixedReact i = none → s.faultReact i ≤ 1) :
    s.OnlyFlt s.countOwed := by
  have g := State.onlyFlt_of s { s.flt with owed := [] }
  unfold State.countOwed
  split
  · rfl
  · split
    · exact g.trans (State.countEvents_onlyFlt _ _ (fun i a b => by rw [g.faultReact]; exact h i a b))
    · exact g.trans (State.holdEvents_onlyFlt _ _)

/-- Events of sources with reaction COUNT or INTERRUPT write the collector alone (R428-R432). -/
theorem State.faults_onlyFlt (s : State) (l : List FEvent) (h : ∀ i, i < 0x5E → fixedReact i = none → s.faultReact i ≤ 1) :
    s.OnlyFlt (s.faults l) := by
  have g := s.countEvents_onlyFlt l h
  unfold State.faults
  split
  · rfl
  · split
    · exact g.trans (State.countOwed_onlyFlt _ (fun i a b => by rw [g.faultReact]; exact h i a b))
    · rfl

/-- One event of a source with reaction COUNT or INTERRUPT writes the collector alone. -/
theorem State.fault_onlyFlt (s : State) (src info : Nat) (h : ∀ i, i < 0x5E → fixedReact i = none → s.faultReact i ≤ 1) :
    s.OnlyFlt (s.fault src info) := s.faults_onlyFlt _ h

end Sys2Proof.Machine
end

