-- ==== Sys2Proof/Laws/Host.lean ====
section
/-! SUPPORT. What posting, refusing and answering do, and the row of a host command that is served. -/

namespace Sys2Proof.Machine

@[simp] theorem maskList_zero (n : Nat) : maskList 0 n = [] := by simp [maskList]

@[simp] theorem State.forEach_nil (s : State) (f : State → Nat → State) : s.forEach [] f = s := rfl

/-- What a change of one unit keeps, a change of each unit of a list keeps. -/
theorem State.forEach_keeps {P : State → State → Prop} (hr : ∀ s, P s s) (ht : ∀ s t u, P s t → P t u → P s u)
    (f : State → Nat → State) (hf : ∀ s n, P s (f s n)) (l : List Nat) (s : State) : P s (s.forEach l f) := by
  induction l generalizing s with
  | nil => exact hr s
  | cons a l ih => exact ht _ _ _ (hf s a) (ih (f s a))

/-- t differs from s in the ports, the field channels and the collector alone. -/
def State.OnlyLatches (s t : State) : Prop := t = { s with port := t.port, field := t.field, flt := t.flt }

theorem State.onlyLatches_trans (s t u : State) (h : s.OnlyLatches t) (g : t.OnlyLatches u) : s.OnlyLatches u := by
  unfold State.OnlyLatches at *
  rw [g, h]

theorem State.forEach_onlyLatches (f : State → Nat → State) (hf : ∀ (s : State) (n : Nat), s.OnlyLatches (f s n)) (l : List Nat)
    (s : State) : s.OnlyLatches (s.forEach l f) :=
  State.forEach_keeps (P := State.OnlyLatches) (fun _ => rfl) State.onlyLatches_trans f hf l s

/-- What posting clears are latches (R255, R280, R442). -/
theorem State.clearReported_onlyLatches (s : State) (r : Reply) : s.OnlyLatches (s.clearReported r) :=
  State.onlyLatches_trans _ _ _
    (State.onlyLatches_trans _ _ _ (State.forEach_onlyLatches _ (fun _ _ => by unfold State.OnlyLatches; rfl) _ s)
      (State.forEach_onlyLatches _ (fun _ _ => by unfold State.OnlyLatches; rfl) _ _))
    (State.forEach_onlyLatches _ (fun _ _ => by unfold State.OnlyLatches; rfl) _ _)

@[simp] theorem State.clearReported_link (s : State) (r : Reply) : (s.clearReported r).link = s.link :=
  (congrArg State.link (s.clearReported_onlyLatches r) :)

/-- A reply that reports no latch clears nothing. -/
theorem State.clearReported_none (s : State) (r : Reply) (h1 : r.clrIn = 0) (h2 : r.clrField = 0) (h3 : r.clrPend = 0) :
    s.clearReported r = s := by
  unfold State.clearReported
  simp [h1, h2, h3]

/-- The reply as it stands in the queue. -/
def Reply.flagged (r : Reply) (ev : Bool) : Reply := { r with flags := r.flags ||| (b2n ev <<< 5) }

/-- s with other replies, one place later in the order of events. -/
def State.relinked (s : State) (l : Link) : State := { s with link := l, evSeq := s.evSeq + 1 }

/-- Posting: into the queue, or among the held replies. -/
theorem State.post_eq (s : State) (r : Reply) :
    s.post r =
      let r1 := { r with num := s.link.nextNum, taken := s.evSeq }
      let l := { s.link with nextNum := s.link.nextNum + 1 }
      if l.held.isEmpty && l.fits r1 then
        (s.relinked { l with replies := l.replies ++ [r1.flagged (s.relinked l).anyPend] }).clearReported r1
      else s.relinked { l with held := l.held ++ [r1] } := rfl

theorem Reply.flagged_mod (r : Reply) (ev : Bool) : (r.flagged ev).flags % 2 = r.flags % 2 := by
  have h := Nat.testBit_or r.flags (b2n ev <<< 5) 0
  simp only [Nat.testBit_zero] at h
  have : b2n ev <<< 5 % 2 = 0 := by cases ev <;> rfl
  have g : ((r.flags ||| (b2n ev <<< 5)) % 2 = 1) ↔ (r.flags % 2 = 1) := by
    simp [this] at h ⊢
  simp only [Reply.flagged]
  omega

/-- m carries the replies of l, in their order, and r as the last one, with the next number. -/
def Link.More (l m : Link) (r : Reply) : Prop :=
  ∃ fl tk, m.replies ++ m.held = l.replies ++ l.held ++ [{ r with num := l.nextNum, flags := fl, taken := tk }] ∧
    fl % 2 = r.flags % 2

/-- A posted reply stands last among the replies (R26, R127). -/
theorem State.post_more (s : State) (r : Reply) : s.link.More (s.post r).link r := by
  rw [State.post_eq]
  dsimp only
  split
  · rename_i h
    rw [Bool.and_eq_true] at h
    have hh : s.link.held = [] := by simpa using h.1
    rw [State.clearReported_link]
    unfold Link.More
    simp only [State.relinked, hh, List.append_nil]
    exact ⟨_, _, rfl, Reply.flagged_mod { r with num := s.link.nextNum, taken := s.evSeq } _⟩
  · refine ⟨r.flags, s.evSeq, ?_, rfl⟩
    simp only [State.relinked, List.append_assoc]

/-- Posting changes the replies, the order of events and latches, nothing else. -/
theorem State.post_frame (s : State) (r : Reply) : s.post r =
    { s with link := (s.post r).link, evSeq := s.evSeq + 1, port := (s.post r).port, field := (s.post r).field,
             flt := (s.post r).flt } := by
  rw [State.post_eq]
  dsimp only
  split
  · refine (State.clearReported_onlyLatches _ _ : _ = _).trans ?_
    rw [State.clearReported_link]
    rfl
  · rfl

/-- Posting a reply that reports no latch changes the replies and the order of events alone. -/
theorem State.post_plain (s : State) (r : Reply) (h1 : r.clrIn = 0) (h2 : r.clrField = 0) (h3 : r.clrPend = 0) :
    s.post r = { s with link := (s.post r).link, evSeq := s.evSeq + 1 } := by
  rw [State.post_eq]
  dsimp only
  split
  · rw [State.clearReported_none _ { r with num := s.link.nextNum, taken := s.evSeq } h1 h2 h3]
    rfl
  · rfl

/-- A command that writes no set-point supersedes nothing. -/
theorem State.supersede_none (s : State) (o : Out) (h : o.sets = []) : s.supersede o = s := by
  unfold State.supersede
  simp [h]

/-- The replies of s that a command's set-points supersede are marked; nothing else changes. -/
theorem State.supersede_frame (s : State) (o : Out) : s.supersede o = { s with link := (s.supersede o).link } := rfl

/-- A command in Run that passes checks 4 to 6 of R125 is executed. -/
theorem State.hostRow_served (s : State) (op : Nat) (c : HostCmd) (h1 : s.inRun = true) (h2 : s.pwr.woken = false)
    (h3 : s.arrivalStatus op c = none) : s.hostRow op c = s.hostRun op c := by
  unfold State.hostRow
  simp [h1, h2, h3]

/-- A command in Run that a check of R125 refuses is answered with its status. -/
theorem State.hostRow_refused (s : State) (op : Nat) (c : HostCmd) (st : Nat) (h1 : s.inRun = true)
    (h2 : s.pwr.woken = false) (h3 : s.arrivalStatus op c = some st) : s.hostRow op c = s.refuse op c st := by
  unfold State.hostRow
  simp [h1, h2, h3]

/-- A command whose outcome is known at once is answered FINAL. -/
theorem State.hostRun_answered (s : State) (op : Nat) (c : HostCmd) (t : State) (o : Out)
    (h1 : s.targetStands op c = true) (h2 : runCommand ⟨op, c, none⟩ s = (t, some o)) (h3 : t.inRun = true) :
    s.hostRun op c = t.respond op c o true := by
  unfold State.hostRun State.execute
  simp [h1, h2, h3]

/-- A command answered at a later racking leaves no reply yet (R144). -/
theorem State.hostRun_later (s : State) (op : Nat) (c : HostCmd) (t : State)
    (h1 : s.targetStands op c = true) (h2 : runCommand ⟨op, c, none⟩ s = (t, none)) : s.hostRun op c = t := by
  unfold State.hostRun State.execute
  simp [h1, h2]

/-- The reply of an executed command, before it gets its number and its place. -/
def outReply (s : State) (op : Nat) (c : HostCmd) (o : Out) (final : Bool) : Reply :=
  { num := 0, seq := c.seq, op := op, node := c.node, status := o.status
    flags := b2n final + 2 * b2n o.cask + 4 * b2n (decide (0 < o.acted) && decide (0 < o.lost)) + 16 * b2n o.cancelled
    payload := w32 (o.tick.getD s.clk.tickCount) :: o.words, taken := 0
    clrIn := o.clrIn, clrField := o.clrField, clrPend := o.clrPend }

/-- An answer that writes no set-point and reports no latch: the reply, the error counters of its status,
the order of events. -/
theorem State.respond_plain (s : State) (op : Nat) (c : HostCmd) (o : Out) (final : Bool) (h0 : o.sets = [])
    (h1 : o.clrIn = 0) (h2 : o.clrField = 0) (h3 : o.clrPend = 0) :
    s.respond op c o final = { s with link := (s.respond op c o final).link, evSeq := s.evSeq + 1
                                      eng := countStatus s.eng o.status } ∧
    s.link.More (s.respond op c o final).link (outReply s op c o final) := by
  have e : s.respond op c o final =
      ({ s with eng := { countStatus s.eng o.status with rackSets := s.eng.rackSets ++ [] } }).post
        (outReply s op c o final) := by
    unfold State.respond
    rw [State.supersede_none s o h0]
    simp [h0, outReply]
  have e2 : ({ countStatus s.eng o.status with rackSets := s.eng.rackSets ++ [] } : Eng) = countStatus s.eng o.status := by
    rw [List.append_nil]
    unfold countStatus
    split <;> rfl
  rw [e, e2]
  exact ⟨State.post_plain _ _ h1 h2 h3, State.post_more _ _⟩

/-- An answer changes the replies, the engine's record of set-points and counters, the order of events and
latches, nothing else. -/
theorem State.respond_frame (s : State) (op : Nat) (c : HostCmd) (o : Out) (final : Bool) :
    let t := s.respond op c o final
    t = { s with link := t.link, evSeq := s.evSeq + 1, eng := t.eng, port := t.port, field := t.field, flt := t.flt } := by
  unfold State.respond
  dsimp only
  rw [State.post_frame]
  rfl

end Sys2Proof.Machine
end

