-- ==== Sys2Proof/Laws/Mem.lean ====
section
/-! SUPPORT. Lists of keyed values in canonical form, and the memory: every operation keeps the canonical
form, a read after a write gives what was written, and a write leaves every other byte alone. -/

namespace Sys2Proof

/-! ### Keyed values -/

/-- Every key of the list is above k. -/
def kvAbove {α : Type} (k : Nat) (l : List (Nat × α)) : Prop := ∀ p ∈ l, k < p.1

theorem kvSorted_cons {α : Type} (p : Nat × α) (l : List (Nat × α)) :
    kvSorted (p :: l) = true ↔ kvAbove p.1 l ∧ kvSorted l = true := by
  induction l generalizing p with
  | nil => simp [kvSorted, kvAbove]
  | cons q r ih =>
      obtain ⟨k, v⟩ := p
      obtain ⟨k', v'⟩ := q
      simp only [kvSorted, Bool.and_eq_true, decide_eq_true_eq]
      constructor
      · rintro ⟨h1, h2⟩
        refine ⟨?_, h2⟩
        intro p hp
        rcases List.mem_cons.1 hp with rfl | hp
        · exact h1
        · exact Nat.lt_trans h1 (((ih (k', v')).1 h2).1 p hp)
      · rintro ⟨h1, h2⟩
        exact ⟨h1 _ (List.mem_cons_self ..), h2⟩

theorem kvGet_above {α : Type} (l : List (Nat × α)) (k : Nat) (h : kvAbove k l) : kvGet l k = none := by
  cases l with
  | nil => rfl
  | cons p r =>
      obtain ⟨k', v⟩ := p
      have h1 : k < k' := h _ (List.mem_cons_self ..)
      simp [kvGet, Nat.ne_of_lt h1, h1]

/-- A value written is read back. -/
theorem kvGet_kvSet_self {α : Type} (l : List (Nat × α)) (k : Nat) (v : α) : kvGet (kvSet l k v) k = some v := by
  induction l with
  | nil => simp [kvSet, kvGet]
  | cons p r ih =>
      obtain ⟨k', v'⟩ := p
      simp only [kvSet]
      split
      · simp [kvGet]
      · split
        · simp [kvGet]
        · rename_i h1 h2
          simp [kvGet, h1, h2, ih]

/-- A write leaves every other key alone. -/
theorem kvGet_kvSet_ne {α : Type} (l : List (Nat × α)) (k j : Nat) (v : α) (h : j ≠ k) (hs : kvSorted l = true) :
    kvGet (kvSet l k v) j = kvGet l j := by
  induction l with
  | nil => simp [kvSet, kvGet, h]
  | cons p r ih =>
      obtain ⟨k', v'⟩ := p
      have hr := (kvSorted_cons _ _).1 hs
      simp only [kvSet]
      split
      · rename_i h1
        by_cases hj : j < k
        · have hj' : ¬ j = k' := by omega
          have hj2 : j < k' := by omega
          simp [kvGet, h, hj, hj', hj2]
        · simp [kvGet, h, hj]
      · split
        · rename_i h1 h2
          subst h2
          simp [kvGet, h]
        · simp only [kvGet]
          split
          · rfl
          · split
            · rfl
            · exact ih hr.2

theorem kvAbove_kvSet {α : Type} (l : List (Nat × α)) (k j : Nat) (v : α) (h : kvAbove j l) (hj : j < k) :
    kvAbove j (kvSet l k v) := by
  induction l with
  | nil =>
      intro p hp
      simp only [kvSet, List.mem_singleton] at hp
      subst hp
      exact hj
  | cons q r ih =>
      obtain ⟨k', v'⟩ := q
      have hr : kvAbove j r := fun p hp => h p (List.mem_cons_of_mem _ hp)
      have hk : j < k' := h (k', v') (List.mem_cons_self ..)
      simp only [kvSet]
      split
      · intro p hp
        rcases List.mem_cons.1 hp with rfl | hp
        · exact hj
        · exact h p hp
      · split
        · intro p hp
          rcases List.mem_cons.1 hp with rfl | hp
          · exact hj
          · exact hr p hp
        · intro p hp
          rcases List.mem_cons.1 hp with rfl | hp
          · exact hk
          · exact ih hr p hp

/-- A write keeps the keys strictly rising. -/
theorem kvSorted_kvSet {α : Type} (l : List (Nat × α)) (k : Nat) (v : α) (hs : kvSorted l = true) :
    kvSorted (kvSet l k v) = true := by
  induction l with
  | nil => rfl
  | cons q r ih =>
      obtain ⟨k', v'⟩ := q
      have hr := (kvSorted_cons _ _).1 hs
      simp only [kvSet]
      split
      · rename_i h1
        refine (kvSorted_cons _ _).2 ⟨?_, hs⟩
        intro p hp
        rcases List.mem_cons.1 hp with rfl | hp
        · exact h1
        · exact Nat.lt_trans h1 (hr.1 p hp)
      · split
        · rename_i h1 h2
          subst h2
          exact (kvSorted_cons _ _).2 ⟨hr.1, hr.2⟩
        · rename_i h1 h2
          exact (kvSorted_cons _ _).2 ⟨kvAbove_kvSet r k k' v hr.1 (by omega), ih hr.2⟩

theorem mem_kvSet {α : Type} (l : List (Nat × α)) (k : Nat) (v : α) (p : Nat × α) (h : p ∈ kvSet l k v) :
    p = (k, v) ∨ p ∈ l := by
  induction l with
  | nil => simpa [kvSet] using h
  | cons q r ih =>
      obtain ⟨k', v'⟩ := q
      simp only [kvSet] at h
      split at h
      · rcases List.mem_cons.1 h with h | h
        · exact .inl h
        · exact .inr h
      · split at h
        · rcases List.mem_cons.1 h with h | h
          · exact .inl h
          · exact .inr (List.mem_cons_of_mem _ h)
        · rcases List.mem_cons.1 h with h | h
          · exact .inr (h ▸ List.mem_cons_self ..)
          · rcases ih h with h | h
            · exact .inl h
            · exact .inr (List.mem_cons_of_mem _ h)

theorem mem_kvDel {α : Type} (l : List (Nat × α)) (k : Nat) (p : Nat × α) (h : p ∈ kvDel l k) : p ∈ l := by
  induction l with
  | nil => simp [kvDel] at h
  | cons q r ih =>
      obtain ⟨k', v'⟩ := q
      simp only [kvDel] at h
      split at h
      · exact h
      · split at h
        · exact List.mem_cons_of_mem _ h
        · rcases List.mem_cons.1 h with h | h
          · exact h ▸ List.mem_cons_self ..
          · exact List.mem_cons_of_mem _ (ih h)

theorem kvSorted_kvDel {α : Type} (l : List (Nat × α)) (k : Nat) (hs : kvSorted l = true) :
    kvSorted (kvDel l k) = true := by
  induction l with
  | nil => rfl
  | cons q r ih =>
      obtain ⟨k', v'⟩ := q
      have hr := (kvSorted_cons _ _).1 hs
      simp only [kvDel]
      split
      · exact hs
      · split
        · exact hr.2
        · exact (kvSorted_cons _ _).2 ⟨fun p hp => hr.1 p (mem_kvDel r k p hp), ih hr.2⟩

/-- A key removed is absent. -/
theorem kvGet_kvDel_self {α : Type} (l : List (Nat × α)) (k : Nat) (hs : kvSorted l = true) :
    kvGet (kvDel l k) k = none := by
  induction l with
  | nil => rfl
  | cons q r ih =>
      obtain ⟨k', v'⟩ := q
      have hr := (kvSorted_cons _ _).1 hs
      simp only [kvDel]
      split
      · rename_i h
        simp [kvGet, Nat.ne_of_lt h, h]
      · split
        · rename_i h1 h2
          subst h2
          exact kvGet_above r k hr.1
        · rename_i h1 h2
          simp [kvGet, h1, h2, ih hr.2]

/-- A removal leaves every other key alone. -/
theorem kvGet_kvDel_ne {α : Type} (l : List (Nat × α)) (k j : Nat) (h : j ≠ k) (hs : kvSorted l = true) :
    kvGet (kvDel l k) j = kvGet l j := by
  induction l with
  | nil => rfl
  | cons q r ih =>
      obtain ⟨k', v'⟩ := q
      have hr := (kvSorted_cons _ _).1 hs
      simp only [kvDel]
      split
      · rfl
      · split
        · rename_i h1 h2
          subst h2
          by_cases hj : j < k
          · have : kvAbove j r := fun p hp => Nat.lt_trans hj (hr.1 p hp)
            simp [kvGet, h, hj, kvGet_above r j this]
          · simp [kvGet, h, hj]
        · simp only [kvGet]
          split
          · rfl
          · split
            · rfl
            · exact ih hr.2

theorem kvSorted_filter {α : Type} (l : List (Nat × α)) (f : Nat × α → Bool) (hs : kvSorted l = true) :
    kvSorted (l.filter f) = true := by
  induction l with
  | nil => rfl
  | cons q r ih =>
      have hr := (kvSorted_cons _ _).1 hs
      simp only [List.filter]
      split
      · refine (kvSorted_cons _ _).2 ⟨fun p hp => hr.1 p (List.mem_filter.1 hp).1, ih hr.2⟩
      · exact ih hr.2

end Sys2Proof

namespace Sys2Proof.Machine

/-! ### The memory -/

theorem memWf_iff (l : List (Nat × Byte)) :
    memWf l = true ↔ kvSorted l = true ∧ ∀ p ∈ l, unlisted p.1 ≠ some p.2 := by
  simp [memWf, bne_iff_ne]

/-- A write of one byte keeps the canonical form. -/
theorem memWf_memPut (l : List (Nat × Byte)) (a : Nat) (b : Byte) (h : memWf l = true) :
    memWf (memPut l a b) = true := by
  obtain ⟨hs, hn⟩ := (memWf_iff l).1 h
  refine (memWf_iff _).2 ?_
  unfold memPut
  split
  · rename_i d hd
    unfold kvPut
    split
    · exact ⟨kvSorted_kvDel l a hs, fun p hp => hn p (mem_kvDel l a p hp)⟩
    · rename_i hb
      refine ⟨kvSorted_kvSet l a b hs, fun p hp => ?_⟩
      rcases mem_kvSet l a b p hp with rfl | hp
      · rw [hd]
        simpa using fun h => hb h.symm
      · exact hn p hp
  · rename_i hd
    refine ⟨kvSorted_kvSet l a b hs, fun p hp => ?_⟩
    rcases mem_kvSet l a b p hp with rfl | hp
    · simp [hd]
    · exact hn p hp

/-- A byte written is read back, and every other byte reads as before. -/
theorem memByte_memPut (l : List (Nat × Byte)) (w : Word) (a c : Nat) (b : Byte) (h : memWf l = true) :
    memByte (memPut l a b) w c = if c = a then b else memByte l w c := by
  obtain ⟨hs, -⟩ := (memWf_iff l).1 h
  unfold memByte memPut
  split
  · rename_i d hd
    unfold kvPut
    by_cases hc : c = a
    · subst hc
      split
      · rename_i hb
        simp [kvGet_kvDel_self l c hs, hd, hb]
      · simp [kvGet_kvSet_self]
    · split
      · simp [kvGet_kvDel_ne l a c hc hs]
      · simp [kvGet_kvSet_ne l a c b hc hs]
  · by_cases hc : c = a
    · subst hc
      simp [kvGet_kvSet_self]
    · simp [kvGet_kvSet_ne l a c b hc hs, hc]

/-- A write of one word keeps the canonical form. -/
theorem memWf_memPutWord (l : List (Nat × Byte)) (a : Nat) (v : Word) (h : memWf l = true) :
    memWf (memPutWord l a v) = true :=
  memWf_memPut _ _ _ (memWf_memPut _ _ _ (memWf_memPut _ _ _ (memWf_memPut _ _ _ h)))

/-- The bytes of a word written are read back, and every other byte reads as before. -/
theorem memByte_memPutWord (l : List (Nat × Byte)) (w v : Word) (a c : Nat) (h : memWf l = true) :
    memByte (memPutWord l a v) w c =
      if a ≤ c ∧ c < a + 4 then byteOf v (c - a) else memByte l w c := by
  have h0 := memWf_memPut l a (byteOf v 0) h
  have h1 := memWf_memPut _ (a + 1) (byteOf v 1) h0
  have h2 := memWf_memPut _ (a + 2) (byteOf v 2) h1
  unfold memPutWord
  rw [memByte_memPut _ _ _ _ _ h2, memByte_memPut _ _ _ _ _ h1, memByte_memPut _ _ _ _ _ h0,
    memByte_memPut _ _ _ _ _ h]
  by_cases c3 : c = a + 3
  · subst c3
    simp [show a ≤ a + 3 ∧ a + 3 < a + 4 from ⟨by omega, by omega⟩]
  by_cases c2 : c = a + 2
  · subst c2
    simp [show a ≤ a + 2 ∧ a + 2 < a + 4 from ⟨by omega, by omega⟩]
  by_cases c1 : c = a + 1
  · subst c1
    simp [show a ≤ a + 1 ∧ a + 1 < a + 4 from ⟨by omega, by omega⟩]
  by_cases c0 : c = a
  · subst c0
    simp
  have hn : ¬ (a ≤ c ∧ c < a + 4) := by omega
  simp [c0, c1, c2, c3, hn]

/-- Bytes taken out of a canonical memory leave it canonical. -/
theorem memWf_filter (l : List (Nat × Byte)) (f : Nat × Byte → Bool) (h : memWf l = true) :
    memWf (l.filter f) = true := by
  obtain ⟨hs, hn⟩ := (memWf_iff l).1 h
  exact (memWf_iff _).2 ⟨kvSorted_filter l f hs, fun p hp => hn p (List.mem_filter.1 hp).1⟩

/-- A word write keeps the canonical form. -/
theorem State.writeWord_memWf (s : State) (a : Nat) (v : Word) (h : memWf s.mem.bytes = true) :
    memWf (s.writeWord a v).mem.bytes = true := memWf_memPutWord _ _ _ h

/-- Zeroing a range keeps the canonical form. -/
theorem State.zeroRange_memWf (s : State) (lo n : Nat) (h : memWf s.mem.bytes = true) :
    memWf (s.zeroRange lo n).mem.bytes = true := by
  unfold State.zeroRange
  split
  · exact h
  · exact memWf_memPutWord _ _ _ (memWf_filter _ _ h)

/-- Words written one after the other keep the canonical form. -/
theorem State.writeWords_memWf (s : State) (lo : Nat) (l : List Word) (h : memWf s.mem.bytes = true) :
    memWf (s.writeWords lo l).mem.bytes = true := by
  unfold State.writeWords
  generalize l.zipIdx = q
  induction q generalizing s with
  | nil => exact h
  | cons p r ih => exact ih (s.writeWord _ _) (s.writeWord_memWf _ _ h)

/-- A word write changes the memories and nothing else. -/
theorem State.writeWord_frame (s : State) (a : Nat) (v : Word) :
    s.writeWord a v = { s with mem := (s.writeWord a v).mem } := rfl

/-- Errors injected into a word keep the canonical form whatever they come to. -/
theorem State.oddErrors_memWf (s : State) (a : Nat) (h : memWf s.mem.bytes = true) :
    memWf (s.oddErrors a).mem.bytes = true := by
  unfold State.oddErrors
  split
  · exact h
  · split
    · dsimp only
      split
      · exact h
      · exact memWf_memPutWord _ _ _ h
    · exact h

/-- A word without injected errors is not touched. -/
theorem State.oddErrors_clean (s : State) (a : Nat) (h : kvGet s.mem.inj a = none) : s.oddErrors a = s := by
  simp [State.oddErrors, h]

/-- A read of a sound word of SB4 or SB5 returns it and changes nothing. -/
theorem State.readMem_sound (s : State) (x : BusAcc) (a : Nat) (h0 : 0x20040000 ≤ a) (h1 : a < 0x20060000)
    (hi : kvGet s.mem.inj a = none) (hp : a ∉ s.mem.poison) :
    s.readMem x a = (s, some (memWord s.mem.bytes 0 a)) := by
  have hs : inSram a = true := by
    simp only [inSram, Bool.and_eq_true, decide_eq_true_eq]
    omega
  have hc : s.checkWord x a .clean = (s, true) := by
    simp [State.checkWord, s.oddErrors_clean a hi, hp, Mem.find, hi]
  have hu : ∀ i, i < 4 → (unlisted (a + i)).isSome = true := by
    intro i hi
    unfold unlisted
    split
    · omega
    · rfl
  have hk : (List.range 4).all (fun i => (kvGet s.mem.bytes (a + i)).isSome || (unlisted (a + i)).isSome) = true := by
    simp only [List.all_eq_true, List.mem_range, Bool.or_eq_true]
    exact fun i hi => .inr (hu i hi)
  simp only [State.readMem, hc, hs, State.sramWord, hk, if_true]

end Sys2Proof.Machine
end

