-- ==== Sys2Proof/Laws/Xk.lean ====
section
/-! SUPPORT. The XK32 instructions: what each issues, how an issue ends, and what the core's register
operations do. -/

namespace Sys2Proof.Machine

/-! ### The effect of each instruction -/

@[simp] theorem xkEffect_add (rd : Fin 16) (ra : Fin 16) (rb : Fin 16) :
    xkEffect (.add rd ra rb) = State.alu (· + ·) 1 rd ra rb := rfl
@[simp] theorem xkEffect_sub (rd : Fin 16) (ra : Fin 16) (rb : Fin 16) :
    xkEffect (.sub rd ra rb) = State.alu (· - ·) 1 rd ra rb := rfl
@[simp] theorem xkEffect_and_ (rd : Fin 16) (ra : Fin 16) (rb : Fin 16) :
    xkEffect (.and_ rd ra rb) = State.alu (· &&& ·) 1 rd ra rb := rfl
@[simp] theorem xkEffect_or_ (rd : Fin 16) (ra : Fin 16) (rb : Fin 16) :
    xkEffect (.or_ rd ra rb) = State.alu (· ||| ·) 1 rd ra rb := rfl
@[simp] theorem xkEffect_xor_ (rd : Fin 16) (ra : Fin 16) (rb : Fin 16) :
    xkEffect (.xor_ rd ra rb) = State.alu (· ^^^ ·) 1 rd ra rb := rfl
@[simp] theorem xkEffect_shl (rd : Fin 16) (ra : Fin 16) (rb : Fin 16) :
    xkEffect (.shl rd ra rb) = State.alu xShl 1 rd ra rb := rfl
@[simp] theorem xkEffect_shr (rd : Fin 16) (ra : Fin 16) (rb : Fin 16) :
    xkEffect (.shr rd ra rb) = State.alu xShr 1 rd ra rb := rfl
@[simp] theorem xkEffect_sar (rd : Fin 16) (ra : Fin 16) (rb : Fin 16) :
    xkEffect (.sar rd ra rb) = State.alu xSar 1 rd ra rb := rfl
@[simp] theorem xkEffect_mul (rd : Fin 16) (ra : Fin 16) (rb : Fin 16) :
    xkEffect (.mul rd ra rb) = State.alu (· * ·) 2 rd ra rb := rfl
@[simp] theorem xkEffect_mulh (rd : Fin 16) (ra : Fin 16) (rb : Fin 16) :
    xkEffect (.mulh rd ra rb) = State.alu xMulh 2 rd ra rb := rfl
@[simp] theorem xkEffect_mulhu (rd : Fin 16) (ra : Fin 16) (rb : Fin 16) :
    xkEffect (.mulhu rd ra rb) = State.alu xMulhu 2 rd ra rb := rfl
@[simp] theorem xkEffect_div (rd : Fin 16) (ra : Fin 16) (rb : Fin 16) :
    xkEffect (.div rd ra rb) = State.alu xDiv 34 rd ra rb := rfl
@[simp] theorem xkEffect_divu (rd : Fin 16) (ra : Fin 16) (rb : Fin 16) :
    xkEffect (.divu rd ra rb) = State.alu xDivu 34 rd ra rb := rfl
@[simp] theorem xkEffect_rem (rd : Fin 16) (ra : Fin 16) (rb : Fin 16) :
    xkEffect (.rem rd ra rb) = State.alu xRem 34 rd ra rb := rfl
@[simp] theorem xkEffect_remu (rd : Fin 16) (ra : Fin 16) (rb : Fin 16) :
    xkEffect (.remu rd ra rb) = State.alu xRemu 34 rd ra rb := rfl
@[simp] theorem xkEffect_min_ (rd : Fin 16) (ra : Fin 16) (rb : Fin 16) :
    xkEffect (.min_ rd ra rb) = State.alu xMin 1 rd ra rb := rfl
@[simp] theorem xkEffect_max_ (rd : Fin 16) (ra : Fin 16) (rb : Fin 16) :
    xkEffect (.max_ rd ra rb) = State.alu xMax 1 rd ra rb := rfl
@[simp] theorem xkEffect_minu (rd : Fin 16) (ra : Fin 16) (rb : Fin 16) :
    xkEffect (.minu rd ra rb) = State.alu xMinu 1 rd ra rb := rfl
@[simp] theorem xkEffect_maxu (rd : Fin 16) (ra : Fin 16) (rb : Fin 16) :
    xkEffect (.maxu rd ra rb) = State.alu xMaxu 1 rd ra rb := rfl
@[simp] theorem xkEffect_seq (rd : Fin 16) (ra : Fin 16) (rb : Fin 16) :
    xkEffect (.seq rd ra rb) = State.alu (fun a b => xBool (a == b)) 1 rd ra rb := rfl
@[simp] theorem xkEffect_sne (rd : Fin 16) (ra : Fin 16) (rb : Fin 16) :
    xkEffect (.sne rd ra rb) = State.alu (fun a b => xBool (a != b)) 1 rd ra rb := rfl
@[simp] theorem xkEffect_slt (rd : Fin 16) (ra : Fin 16) (rb : Fin 16) :
    xkEffect (.slt rd ra rb) = State.alu (fun a b => xBool (a.slt b)) 1 rd ra rb := rfl
@[simp] theorem xkEffect_sltu (rd : Fin 16) (ra : Fin 16) (rb : Fin 16) :
    xkEffect (.sltu rd ra rb) = State.alu (fun a b => xBool (a.ult b)) 1 rd ra rb := rfl
@[simp] theorem xkEffect_sle (rd : Fin 16) (ra : Fin 16) (rb : Fin 16) :
    xkEffect (.sle rd ra rb) = State.alu (fun a b => xBool (!b.slt a)) 1 rd ra rb := rfl
@[simp] theorem xkEffect_sleu (rd : Fin 16) (ra : Fin 16) (rb : Fin 16) :
    xkEffect (.sleu rd ra rb) = State.alu (fun a b => xBool (!b.ult a)) 1 rd ra rb := rfl
@[simp] theorem xkEffect_addi (rd : Fin 16) (ra : Fin 16) (imm : BitVec 18) :
    xkEffect (.addi rd ra imm) = State.aluImm (· + ·) rd ra (imm.signExtend 32) := rfl
@[simp] theorem xkEffect_andi (rd : Fin 16) (ra : Fin 16) (imm : BitVec 18) :
    xkEffect (.andi rd ra imm) = State.aluImm (· &&& ·) rd ra (imm.setWidth 32) := rfl
@[simp] theorem xkEffect_ori (rd : Fin 16) (ra : Fin 16) (imm : BitVec 18) :
    xkEffect (.ori rd ra imm) = State.aluImm (· ||| ·) rd ra (imm.setWidth 32) := rfl
@[simp] theorem xkEffect_xori (rd : Fin 16) (ra : Fin 16) (imm : BitVec 18) :
    xkEffect (.xori rd ra imm) = State.aluImm (· ^^^ ·) rd ra (imm.setWidth 32) := rfl
@[simp] theorem xkEffect_shli (rd : Fin 16) (ra : Fin 16) (sh : BitVec 5) :
    xkEffect (.shli rd ra sh) = State.aluImm xShl rd ra (sh.setWidth 32) := rfl
@[simp] theorem xkEffect_shri (rd : Fin 16) (ra : Fin 16) (sh : BitVec 5) :
    xkEffect (.shri rd ra sh) = State.aluImm xShr rd ra (sh.setWidth 32) := rfl
@[simp] theorem xkEffect_sari (rd : Fin 16) (ra : Fin 16) (sh : BitVec 5) :
    xkEffect (.sari rd ra sh) = State.aluImm xSar rd ra (sh.setWidth 32) := rfl
@[simp] theorem xkEffect_seqi (rd : Fin 16) (ra : Fin 16) (imm : BitVec 18) :
    xkEffect (.seqi rd ra imm) = State.aluImm (fun a b => xBool (a == b)) rd ra (imm.signExtend 32) := rfl
@[simp] theorem xkEffect_slti (rd : Fin 16) (ra : Fin 16) (imm : BitVec 18) :
    xkEffect (.slti rd ra imm) = State.aluImm (fun a b => xBool (a.slt b)) rd ra (imm.signExtend 32) := rfl
@[simp] theorem xkEffect_sltui (rd : Fin 16) (ra : Fin 16) (imm : BitVec 18) :
    xkEffect (.sltui rd ra imm) = State.aluImm (fun a b => xBool (a.ult b)) rd ra (imm.signExtend 32) := rfl
@[simp] theorem xkEffect_lui (rd : Fin 16) (imm : BitVec 16) :
    xkEffect (.lui rd imm) = State.load1 rd (imm ++ (0 : BitVec 16)) := rfl
@[simp] theorem xkEffect_ldw (rd : Fin 16) (ra : Fin 16) (k : Fin 8) (imm : BitVec 15) :
    xkEffect (.ldw rd ra k imm) = State.ld 2 id rd ra k imm := rfl
@[simp] theorem xkEffect_ldh (rd : Fin 16) (ra : Fin 16) (k : Fin 8) (imm : BitVec 15) :
    xkEffect (.ldh rd ra k imm) = State.ld 1 sext16 rd ra k imm := rfl
@[simp] theorem xkEffect_ldhu (rd : Fin 16) (ra : Fin 16) (k : Fin 8) (imm : BitVec 15) :
    xkEffect (.ldhu rd ra k imm) = State.ld 1 id rd ra k imm := rfl
@[simp] theorem xkEffect_ldb (rd : Fin 16) (ra : Fin 16) (k : Fin 8) (imm : BitVec 15) :
    xkEffect (.ldb rd ra k imm) = State.ld 0 sext8 rd ra k imm := rfl
@[simp] theorem xkEffect_ldbu (rd : Fin 16) (ra : Fin 16) (k : Fin 8) (imm : BitVec 15) :
    xkEffect (.ldbu rd ra k imm) = State.ld 0 id rd ra k imm := rfl
@[simp] theorem xkEffect_stw (rd : Fin 16) (ra : Fin 16) (k : Fin 8) (imm : BitVec 15) :
    xkEffect (.stw rd ra k imm) = State.st 2 rd ra k imm := rfl
@[simp] theorem xkEffect_sth (rd : Fin 16) (ra : Fin 16) (k : Fin 8) (imm : BitVec 15) :
    xkEffect (.sth rd ra k imm) = State.st 1 rd ra k imm := rfl
@[simp] theorem xkEffect_stb (rd : Fin 16) (ra : Fin 16) (k : Fin 8) (imm : BitVec 15) :
    xkEffect (.stb rd ra k imm) = State.st 0 rd ra k imm := rfl
@[simp] theorem xkEffect_push (rd : Fin 16) :
    xkEffect (.push rd) = State.xPush rd := rfl
@[simp] theorem xkEffect_pop (rd : Fin 16) :
    xkEffect (.pop rd) = State.xPop rd := rfl
@[simp] theorem xkEffect_dspadj (imm : BitVec 16) :
    xkEffect (.dspadj imm) = State.xDspadj imm := rfl
@[simp] theorem xkEffect_dspget (rd : Fin 16) :
    xkEffect (.dspget rd) = fun s => State.load1 rd s.core.dsp s := rfl
@[simp] theorem xkEffect_dspset (ra : Fin 16) :
    xkEffect (.dspset ra) = State.xDspset ra := rfl
@[simp] theorem xkEffect_rdfeat (rd : Fin 16) (imm : BitVec 18) :
    xkEffect (.rdfeat rd imm) = State.xRdfeat rd imm := rfl
@[simp] theorem xkEffect_mfs (rd : Fin 16) (imm : BitVec 18) :
    xkEffect (.mfs rd imm) = State.xMfs rd imm := rfl
@[simp] theorem xkEffect_bz (rt : Fin 16) (disp : BitVec 22) :
    xkEffect (.bz rt disp) = fun s => State.branch (s.gr rt == 0) disp s := rfl
@[simp] theorem xkEffect_bnz (rt : Fin 16) (disp : BitVec 22) :
    xkEffect (.bnz rt disp) = fun s => State.branch (s.gr rt != 0) disp s := rfl
@[simp] theorem xkEffect_call (disp : BitVec 26) :
    xkEffect (.call disp) = fun s => State.callTo (s.target disp) s := rfl
@[simp] theorem xkEffect_callr (ra : Fin 16) :
    xkEffect (.callr ra) = fun s => State.callTo (s.gr ra) s := rfl
@[simp] theorem xkEffect_jr (ra : Fin 16) :
    xkEffect (.jr ra) = fun s => (s.jump (s.gr ra) 2, none) := rfl
@[simp] theorem xkEffect_ret :
    xkEffect (.ret) = State.xRet := rfl
@[simp] theorem xkEffect_yield :
    xkEffect (.yield) = fun s => (s.endRun .yielded 1, none) := rfl
@[simp] theorem xkEffect_break (imm : BitVec 18) :
    xkEffect (.break imm) = fun s => (s, some (plainTrap 0x0C imm.toNat)) := rfl
@[simp] theorem xkEffect_qmul (rd : Fin 16) (ra : Fin 16) (rb : Fin 16) (f : BitVec 5) :
    xkEffect (.qmul rd ra rb f) = State.cop (State.alu (qMul f.toNat) 1 rd ra rb) := rfl
@[simp] theorem xkEffect_qdiv (rd : Fin 16) (ra : Fin 16) (rb : Fin 16) (f : BitVec 5) :
    xkEffect (.qdiv rd ra rb f) = State.cop (State.alu (qDiv f.toNat) 34 rd ra rb) := rfl
@[simp] theorem xkEffect_qadd (rd : Fin 16) (ra : Fin 16) (rb : Fin 16) :
    xkEffect (.qadd rd ra rb) = State.cop (State.alu qAdd 1 rd ra rb) := rfl
@[simp] theorem xkEffect_qsub (rd : Fin 16) (ra : Fin 16) (rb : Fin 16) :
    xkEffect (.qsub rd ra rb) = State.cop (State.alu qSub 1 rd ra rb) := rfl
@[simp] theorem xkEffect_sat (rd : Fin 16) (ra : Fin 16) (n : Fin 33) :
    xkEffect (.sat rd ra n) = if n = 0 then illegal else State.cop (State.alu (fun a _ => satTo n.val a) 1 rd ra 0) := rfl
@[simp] theorem xkEffect_satu (rd : Fin 16) (ra : Fin 16) (n : Fin 32) :
    xkEffect (.satu rd ra n) = if n = 0 then illegal else State.cop (State.alu (fun a _ => satuTo n.val a) 1 rd ra 0) := rfl
@[simp] theorem xkEffect_qabs (rd : Fin 16) (ra : Fin 16) :
    xkEffect (.qabs rd ra) = State.cop (State.alu (fun a _ => sat32 a.toInt.natAbs) 1 rd ra 0) := rfl
@[simp] theorem xkEffect_isqrt (rd : Fin 16) (ra : Fin 16) :
    xkEffect (.isqrt rd ra) = State.cop (State.alu (fun a _ => w32 (isqrtNat a.toNat)) 17 rd ra 0) := rfl
@[simp] theorem xkEffect_aclr :
    xkEffect (.aclr) = State.copSet (fun _ c => { c with acc := 0 }) := rfl
@[simp] theorem xkEffect_mac (ra : Fin 16) (rb : Fin 16) :
    xkEffect (.mac ra rb) = State.copSet (fun s c => { c with acc := c.acc + BitVec.ofInt 64 ((s.gr ra).toInt * (s.gr rb).toInt) }) := rfl
@[simp] theorem xkEffect_msu (ra : Fin 16) (rb : Fin 16) :
    xkEffect (.msu ra rb) = State.copSet (fun s c => { c with acc := c.acc - BitVec.ofInt 64 ((s.gr ra).toInt * (s.gr rb).toInt) }) := rfl
@[simp] theorem xkEffect_ard (rd : Fin 16) (f : BitVec 6) :
    xkEffect (.ard rd f) = State.copGet rd (fun c => sat32 (roundShift c.acc.toInt f.toNat)) := rfl
@[simp] theorem xkEffect_ardl (rd : Fin 16) :
    xkEffect (.ardl rd) = State.copGet rd (fun c => c.acc.setWidth 32) := rfl
@[simp] theorem xkEffect_ardh (rd : Fin 16) :
    xkEffect (.ardh rd) = State.copGet rd (fun c => (c.acc >>> 32).setWidth 32) := rfl
@[simp] theorem xkEffect_awr (ra : Fin 16) (rb : Fin 16) :
    xkEffect (.awr ra rb) = State.copSet (fun s c => { c with acc := s.gr rb ++ s.gr ra }) := rfl
@[simp] theorem xkEffect_crci (ra : Fin 16) :
    xkEffect (.crci ra) = State.copSet (fun s c => { c with crc := s.gr ra }) := rfl
@[simp] theorem xkEffect_crcw (ra : Fin 16) :
    xkEffect (.crcw ra) = State.copSet (fun s c => { c with crc := crcWord c.crc (s.gr ra) }) := rfl
@[simp] theorem xkEffect_crcb (ra : Fin 16) :
    xkEffect (.crcb ra) = State.copSet (fun s c => { c with crc := crcByte c.crc (bits (s.gr ra) 0 8) }) := rfl
@[simp] theorem xkEffect_crcr (rd : Fin 16) :
    xkEffect (.crcr rd) = State.copGet rd (fun c => c.crc ^^^ 0xFFFFFFFF) := rfl
@[simp] theorem xkEffect_akey (ra : Fin 16) (i : Fin 4) :
    xkEffect (.akey ra i) = fun s => State.copSet (fun s c => { c with key := vput c.key i (s.gr ra) }) s.aesWait := rfl
@[simp] theorem xkEffect_ain (ra : Fin 16) (i : Fin 4) :
    xkEffect (.ain ra i) = fun s => State.copSet (fun s c => { c with inp := vput c.inp i (s.gr ra) }) s.aesWait := rfl
@[simp] theorem xkEffect_aenc :
    xkEffect (.aenc) = fun s => State.copSet (fun s c => { copEncrypt c with busyUntil := s.core.cycles + 12 }) s.aesWait := rfl
@[simp] theorem xkEffect_aout (rd : Fin 16) (i : Fin 4) :
    xkEffect (.aout rd i) = fun s => State.copGet rd (fun c => vget c.out i) s.aesWait := rfl
@[simp] theorem xkEffect_svc (n : BitVec 18) : xkEffect (.svc n) = State.service n.toNat := rfl

/-! ### Issue (R406) -/

/-- An instruction that is issued and does not trap leaves the state of its effect. -/
theorem State.xkRow_next (s t : State) (i : Instr)
    (hb : s.core.run = .running → s.core.cycles < s.core.budget) (he : xkEffect i s = (t, none)) :
    s.xkRow i = t := by
  have hc : (s.core.run == .running && decide (s.core.budget ≤ s.core.cycles)) = false := by
    by_cases hr : s.core.run = .running
    · have := hb hr
      simp [hr]
      omega
    · simp [hr]
  simp [State.xkRow, State.xkIssue, hc, he]

/-- An instruction that is issued and traps ends the run with its trap. -/
theorem State.xkRow_trap (s t : State) (i : Instr) (x : XTrap)
    (hb : s.core.run = .running → s.core.cycles < s.core.budget) (he : xkEffect i s = (t, some x)) :
    s.xkRow i = t.xkTrap ((encodeXk i).getD 0) x := by
  have hc : (s.core.run == .running && decide (s.core.budget ≤ s.core.cycles)) = false := by
    by_cases hr : s.core.run = .running
    · have := hb hr
      simp [hr]
      omega
    · simp [hr]
  simp [State.xkRow, State.xkIssue, hc, he]

/-- A service call that is issued and does not trap leaves the state of its effect. -/
theorem State.svcRow_next (s t : State) (n : Nat)
    (hb : s.core.run = .running → s.core.cycles < s.core.budget) (he : State.service n s = (t, none)) :
    s.svcRow n = t := by
  have hc : (s.core.run == .running && decide (s.core.budget ≤ s.core.cycles)) = false := by
    by_cases hr : s.core.run = .running
    · have := hb hr
      simp [hr]
      omega
    · simp [hr]
  simp [State.svcRow, State.xkIssue, hc, he]

/-- A run whose budget is used up issues nothing. -/
theorem State.xkRow_overrun (s : State) (i : Instr) (hr : s.core.run = .running)
    (hb : s.core.budget ≤ s.core.cycles) : s.xkRow i = s.xkOverrun := by
  simp [State.xkRow, State.xkIssue, hr, hb]

/-! ### Registers (R392) -/

@[simp] theorem State.gr_zero (s : State) : s.gr 0 = 0 := by simp [State.gr]
@[simp] theorem State.setGr_zero (s : State) (v : Word) : s.setGr 0 v = s := by simp [State.setGr]

/-- A result changes its register, PC and the cycle count, and nothing else. -/
theorem State.result_eq (s : State) (rd : Fin 16) (v : Word) (n : Nat) :
    s.result rd v n = { s with core := { s.core with
      g := if rd = 0 then s.core.g else s.core.g.set rd v
      pc := s.core.pc + 4, cycles := s.core.cycles + n } } := by
  have hv : vput s.core.g rd v = s.core.g.set rd v := by
    ext j hj
    simp [vput, Vector.getElem_setIfInBounds, Vector.getElem_set]
  by_cases h : rd = 0 <;> simp [State.result, State.setGr, State.step4, State.updCore, h, hv]

/-- One instruction further changes PC and the cycle count, and nothing else. -/
theorem State.step4_eq (s : State) (n : Nat) :
    s.step4 n = { s with core := { s.core with pc := s.core.pc + 4, cycles := s.core.cycles + n } } := rfl

/-- A jump changes PC and the cycle count, and nothing else. -/
theorem State.jump_eq (s : State) (pc : Word) (n : Nat) :
    s.jump pc n = { s with core := { s.core with pc := align4 pc, cycles := s.core.cycles + n } } := rfl

/-- The end of a run changes the run's state and the cycle count, and nothing else. -/
theorem State.endRun_eq (s : State) (e : RunEnd) (n : Nat) :
    s.endRun e n = { s with core := { s.core with run := e, cycles := s.core.cycles + n } } := rfl

/-! ### SRAM on the bus (R13-R16, R397, R398) -/

theorem inSram_of (a : Nat) (h0 : 0x20040000 ≤ a) (h1 : a < 0x20060000) :
    inSram a = true ∧ inRom a = false ∧ inFlash a = false ∧ inPeriph a = false ∧ inCop a = false := by
  simp only [inSram, inRom, inFlash, inPeriph, inCop, Bool.and_eq_true, Bool.and_eq_false_iff,
    decide_eq_true_eq, decide_eq_false_iff_not]
  omega

/-- Nothing stops an aligned access of the applet to SB4 or SB5. -/
theorem State.accessStop_sram (s : State) (kind sz a : Nat) (wr : Bool) (h0 : 0x20040000 ≤ a) (h1 : a < 0x20060000)
    (hz : a % sizeBytes sz = 0) : s.accessStop { m := 1, kind := kind, size := sz } a wr = none := by
  obtain ⟨hs, hr, hf, hp, hc⟩ := inSram_of a h0 h1
  simp [State.accessStop, absentAt, reaches, sizeOk, hs, hr, hf, hp, hc, hz]

/-- An aligned read of a sound word of SB4 or SB5 by the applet returns its bytes and changes nothing. -/
theorem State.busRead_sram (s : State) (kind sz a : Nat) (h0 : 0x20040000 ≤ a) (h1 : a < 0x20060000)
    (hz : a % sizeBytes sz = 0) (hi : kvGet s.mem.inj (a / 4 * 4) = none) (hp : a / 4 * 4 ∉ s.mem.poison) :
    s.busRead { m := 1, kind := kind, size := sz } a .clean =
      (s, w32 (bits (memWord s.mem.bytes 0 (a / 4 * 4)) (8 * (a % 4)) (8 * sizeBytes sz)), .ok) := by
  obtain ⟨hs, hr, hf, hpe, hc⟩ := inSram_of a h0 h1
  have hm := s.readMem_sound { m := 1, kind := kind, size := sz } (a / 4 * 4) (by omega) (by omega) hi hp
  simp [State.busRead, s.accessStop_sram kind sz a false h0 h1 hz, hpe, hc, hm]

/-- An aligned word write of the applet to SB4 or SB5 is a word write. -/
theorem State.busWrite_sram_word (s : State) (kind a : Nat) (v : Word) (h0 : 0x20040000 ≤ a)
    (h1 : a < 0x20060000) (hz : a % 4 = 0) :
    s.busWrite { m := 1, kind := kind, size := 2 } a v = (s.writeWord a v, .ok) := by
  obtain ⟨hs, hr, hf, hpe, hc⟩ := inSram_of a h0 h1
  have hn : a ≠ 0x4000000C := by omega
  simp [State.busWrite, s.accessStop_sram kind 2 a true h0 h1 hz, hpe, hc, hn, State.writeMem, sizeBytes]

/-- An aligned part-word write of the applet to a sound word of SB4 or SB5 replaces its bytes. -/
theorem State.busWrite_sram_part (s : State) (kind sz a : Nat) (v : Word) (h0 : 0x20040000 ≤ a)
    (h1 : a < 0x20060000) (hsz : sz < 2) (hz : a % sizeBytes sz = 0) (hi : kvGet s.mem.inj (a / 4 * 4) = none)
    (hp : a / 4 * 4 ∉ s.mem.poison) :
    s.busWrite { m := 1, kind := kind, size := sz } a v =
      (s.writeWord (a / 4 * 4) (mergePart (memWord s.mem.bytes 0 (a / 4 * 4)) v (a % 4) (sizeBytes sz)), .ok) := by
  obtain ⟨hs, hr, hf, hpe, hc⟩ := inSram_of a h0 h1
  have hn : a ≠ 0x4000000C := by omega
  have hm := s.readMem_sound { m := 1, kind := 0, size := sz } (a / 4 * 4) (by omega) (by omega) hi hp
  have h4 : sizeBytes sz ≠ 4 := by
    interval_cases sz <;> decide
  simp [State.busWrite, s.accessStop_sram kind sz a true h0 h1 hz, hpe, hc, hn, State.writeMem, h4, hm]

/-- The checks of R397 pass. -/
theorem State.segFault_none (s : State) (k : Nat) (wr : Bool) (sz o : Nat) (h6 : k ≠ 6)
    (hp : (if wr then (s.segd k).w else (s.segd k).r) = true) (hio : (s.segd k).io = false ∨ sz = 2)
    (hz : o % sizeBytes sz = 0) (hl : o + sizeBytes sz ≤ (s.segd k).limit) : s.segFault k wr sz o = none := by
  have h0 : (s.segd k).limit ≠ 0 := by
    have : 0 < sizeBytes sz := by unfold sizeBytes; split <;> decide
    omega
  have hio' : ((s.segd k).io && sz != 2) = false := by
    rcases hio with h | h <;> simp [h]
  have hl' : ¬ (s.segd k).limit < o + sizeBytes sz := by omega
  cases wr <;> simp only [if_true, Bool.false_eq_true, if_false] at hp <;>
    simp only [State.segFault, h6, h0, hp, hio', hz, hl', if_true, if_false, Bool.not_true, Bool.false_eq_true,
      bne_self_eq_false]

end Sys2Proof.Machine
end

