-- ==== Sys2Proof/Safety.lean ====
section
/-! DEFINITION. What counts as a safe run of the block: every queued command completes. -/

namespace Sys2Proof

/-- n commands are taken one after another, each answering a next state. -/
def safeRun : Nat → Machine.State → Prop
  | 0, _ => True
  | n + 1, s => ∃ t, Machine.step s = .next t ∧ safeRun n t

end Sys2Proof
end

