-- ==== Sys2Proof/Tests/Slice0.lean ====
section
/-! SUPPORT. The model's own tests: ill-formed terms that the check refuses, words written out from the
encodings of the spec, single steps whose results the spec gives, and for every statement with hypotheses a state
and operands that meet them (`test_meets_…`). -/

namespace Sys2Proof.Tests

open Sys2Proof.Machine Sys2Proof.Claims

set_option Elab.async false

/-! ### Helpers -/

/-- A state in Run, one second after the supply rose, clocked from XCLK, with Reset values in its registers. -/
def w : State :=
  { State.reset with
    pwr := { pwrReset with phase := .run, powerOn := false, booted := true }
    clk := { clkReset with tickNs := 1000000000, tickCount := 20, xclkSel := 5, src := 1, pllLock := true, xclkOk := true }
    supply := { (default : Supply) with vioOk := true, vbatMv := 12000 }
    flt := { fltReset with st := .normal, safe := false } }

/-- s with values in registers of the register tables, stored and acting. -/
def withRegs (s : State) (l : List (Nat × Nat)) : State :=
  let f := fun r (p : Nat × Nat) => stWrite r p.1 (w32 p.2)
  { s with regs := l.foldl f s.regs, svc := l.foldl f s.svc }

/-- A packet with words from word 2 on. -/
def pk (node flags : Nat) (l : List Nat) : HostCmd := ⟨7, node, flags, l.map w32⟩

/-- A property of the next state of a command. -/
def after (i : Instr) (s : State) (p : State → Bool) : Bool :=
  match exec i s with
  | .next t => p t
  | _ => false

/-! ### Ill-formed commands are refused -/

/-- Boot, tick, diagnostic and frame inputs that pass their checks. -/
def boot : BootIn :=
  { fuses := [(some 1, some 1)], xclkSum := 5120, xclkWin := List.replicate 33 320, xclkTail := 100, patches := 0, rejected := 0
    level := 0, collectorOk := true, wordOk := true, pageOk := true, romOk := true, badRows := [1535], badSpares := [95]
    flashOk := true, ledgerA := true, ledgerB := true }
def tickIn : TickIn :=
  { slip := 0, theta := List.replicate 16 250, vbatMv := 12000, quads := List.replicate 4 12000, parkHz := 32768, vboost := 6500,
    valveMa := List.replicate 8 0, valveSq := List.replicate 8 (0, 0), bankSq := List.replicate 4 (0, 0), boostMw := 0
    contacts := [(63, .open_, 5000)], pins := List.replicate 8 ⟨false, 0, 0, 0⟩, clampUj := [], cut := 0, decodes := 0
    hcsnLow := false }
def diagIn : DiagIn :=
  { load := List.replicate 48 default, valveMa := List.replicate 8 0, bankMa := List.replicate 4 0, iin := 0 }

theorem test_wf_times : wellFormed (.brownOut 799999) = true ∧ wellFormed (.brownOut 800000) = false := by decide

theorem test_wf_packet_fields :
    wellFormed (.nop ⟨255, 65535, 65535, List.replicate 254 0⟩) = true ∧ wellFormed (.nop ⟨256, 0, 0, []⟩) = false ∧
    wellFormed (.nop ⟨0, 65536, 0, []⟩) = false ∧ wellFormed (.nop ⟨0, 0, 65536, []⟩) = false ∧
    wellFormed (.nop ⟨0, 0, 0, List.replicate 255 0⟩) = false := by decide +kernel

theorem test_wf_tick :
    wellFormed (.pressTick tickIn) = true ∧
    (∀ t ∈ [{ tickIn with theta := [] }, { tickIn with quads := [] }, { tickIn with vbatMv := 65536 },
      { tickIn with parkHz := 65536 }, { tickIn with vboost := 65536 }, { tickIn with valveMa := [] },
      { tickIn with valveSq := [] }, { tickIn with bankSq := [] }, { tickIn with contacts := [(64, .open_, 0)] }, { tickIn with pins := [] }],
      wellFormed (.pressTick t) = false) := by decide +kernel

theorem test_wf_diagnostic_window :
    wellFormed (.diagnosticSampling 0 diagIn) = true ∧
    (∀ d ∈ [{ diagIn with load := [] }, { diagIn with valveMa := [] }, { diagIn with bankMa := [] },
      { diagIn with iin := 65536 }],
      wellFormed (.diagnosticSampling 0 d) = false) := by decide +kernel

theorem test_wf_boot :
    wellFormed (.vbatPowerOn boot) = true ∧
    (∀ b ∈ [{ boot with fuses := List.replicate 4 (none, none) }, { boot with xclkWin := List.replicate 34 320 }, { boot with patches := 65536 }, { boot with rejected := 65536 },
      { boot with level := 65536 }, { boot with badRows := [1536] }, { boot with badSpares := [96] }],
      wellFormed (.vbatPowerOn b) = false) := by decide +kernel

theorem test_wf_frames :
    wellFormed (.canFrameReceived 0 0 ⟨0x800, false, 0, false, false, false, false, 0, []⟩ 0) = false ∧
    wellFormed (.canFrameReceived 0 0 ⟨0x20000000, true, 0, false, false, false, false, 0, []⟩ 0) = false ∧
    wellFormed (.canFrameReceived 0 0 ⟨0, false, 16, false, false, false, false, 0, []⟩ 0) = false ∧
    wellFormed (.canFrameReceived 0 0 ⟨0, false, 0, false, false, false, false, 0, List.replicate 65 0⟩ 0) = false ∧
    wellFormed (.canReceiveError 0 0 8 0) = false ∧
    wellFormed (.linFrameReceived 0 0 (List.replicate 9 0) none ⟨false, false⟩) = false ∧
    wellFormed (.t1sFrameReceived 0 0 (List.replicate 2049 0) true 0) = false ∧
    wellFormed (.ringFrameReceived 800000 31 3 .ring ⟨true, false⟩ ⟨0, 5000⟩) = false ∧
    wellFormed (.networkWakeCause 0 16 0) = false ∧
    wellFormed (.telegramReceived 0 (List.replicate 65 0) ⟨8, 0, [], false⟩) = false ∧
    wellFormed (.telegramReceived 0 [] ⟨8, 0, List.replicate 533 0, false⟩) = false ∧
    wellFormed (.commandTransaction 0 (List.replicate 5121 0) true) = false := by and_intros <;> decide +kernel

theorem test_wf_rest :
    wellFormed (.fieldUplinkCycle 0 { (default : UplinkIn) with limiting := 65536 }) = false ∧
    wellFormed (.fieldUplinkCycle 0 { (default : UplinkIn) with conv := 16 }) = false ∧
    wellFormed (.fieldLinkLoss 0 8) = false ∧ wellFormed (.registerWrite 0 .ce (2 ^ 32) 0) = false ∧
    wellFormed (.lowWordRead 0 .ce (2 ^ 32)) = false ∧ wellFormed (.vatStoreDone 0 (.badPage 1024)) = false ∧
    wellFormed (.scrubRead 0 .onTime (.two ⟨[1024], []⟩) false default) = false ∧
    wellFormed (.scrubRead 0 .onTime .clean true ⟨[], [256]⟩) = false ∧
    wellFormed (.canObjWord0Read 0 3 127 .ce (.two ⟨[1024], []⟩)) = false ∧
    wellFormed (.sat 0 0 0) = false ∧ wellFormed (.satu 0 0 0) = false := by and_intros <;> decide +kernel

/-! ### Words of the applet core, from the formats of R400 and the listing of the chapter's example -/

theorem test_decode_example :
    decodeXk 0x3040FFFF = some (.lui 1 0xFFFF) ∧ decodeXk 0x1044FFFF = some (.ori 1 1 0xFFFF) ∧
    decodeXk 0xF8040000 = some (.crci 1) ∧ decodeXk 0x08800000 = some (.addi 2 0 0) ∧
    decodeXk 0x51090000 = some (.ldbu 4 2 2 0) ∧ decodeXk 0xF8100200 = some (.crcb 4) ∧
    decodeXk 0x0548C003 = some (.sltu 5 2 3) ∧ decodeXk 0x857FFFFC = some (.bnz 5 0x3FFFFC) ∧
    decodeXk 0xF9800300 = some (.crcr 6) := by and_intros <;> decide +kernel

/-! ### Single steps, with the results of the chapters' examples -/

/-- FEAT0 and FEAT2 of TZ4824-A. -/
theorem test_features : featWord 9 0 = 0x48000109 ∧ featWord 9 2 = 0x0000130F := by decide +kernel

/-- The CRC-32 of the ASCII characters 123456789 is 0xCBF43926: eight in words, the ninth by CRCB. -/
theorem test_crc_check_value :
    let y : State := { w with core := { coreReset with
      run := .running, budget := 9, g := coreReset.g.set 4 (0x39 : Word)
      cop := { coreReset.cop with crc := [(0x31323334 : Word), 0x35363738].foldl crcWord 0xFFFFFFFF } } }
    after (.crcb 4) y (fun t => after (.crcr 6) t (fun u => u.gr 6 == 0xCBF43926)) = true := by decide +kernel

/-- The encryption of FIPS 197, appendix B. -/
theorem test_aes_vector :
    aes128 0x2B7E151628AED2A6ABF7158809CF4F3C 0x3243F6A8885A308D313198A2E0370734 =
      0x3925841D02DC09FBDC118597196A0B32 := by decide +kernel

/-- An LDBU at offset 8 of a segment with LIMIT 8 traps with LIMIT; its record as the example reads it. -/
theorem test_limit_trap_record :
    let d : SegDesc := { base := 0x20042000, limit := 8, r := true, w := false, x := false, io := false }
    let y : State := { w with core := { coreReset with
      run := .running, budget := 99, slot := 2, pc := 20, seg := coreReset.seg.set 2 d
      g := (coreReset.g.set 2 (8 : Word)) } }
    after (.ldbu 4 2 2 0) y (fun t => t.core.run == .trapped && (t.slot 2).trap.w0 == 0x00020A06 &&
      (t.slot 2).trap.w1 == 20 && (t.slot 2).trap.w2 == 8) = true := by decide +kernel

/-- The capture of a LOAD_OC event of LC6 at 200.402 ms. -/
theorem test_load_oc_capture :
    captureOf (plainEvent 0x16 6) 200402000 = { w0 := 0x00061F16, w1 := 0, w2 := 0x0BF1E450, w3 := 0 } := by decide +kernel

/-- SET_OUT of LC25 on TZ4824-A is answered ABSENT, and VALVE_FIRE of VL5. -/
theorem test_absent_units :
    let y : State := { w with feat := { w.feat with variant := 9 } }
    y.arrivalStatus 0x20 (pk 0x0119 0 [1]) = some 0x23 ∧ y.arrivalStatus 0x28 (pk 0x0205 0 [100]) = some 0x23 := by
  intro y; and_intros <;> decide +kernel

/-- A press tick in Run counts one frame and starts the next at phase 0. -/
theorem test_press_tick :
    after (.pressTick tickIn) w (fun t => t.clk.tickCount == 21 && t.clk.phase == 0 && t.clk.tickNs == 1001000000) = true := by
  decide +kernel

/-- A step takes the command at the front; on an empty queue the block idles. -/
theorem test_step :
    (match step { w with pending := [.yield, .aclr] } with
      | .next t => t.pending == [.aclr] && t.core.run == .yielded
      | _ => false) = true ∧ (match step w with | .next t => t == w | _ => false) = true := by decide +kernel

/-! ### Hypotheses: the applet core -/

/-- w with an applet in slot 7 that runs, S1 over 16 words of its data, S3 over the last 16 bytes of SB5. -/
def x : State :=
  { w with core := { coreReset with
      run := .running, budget := 100, slot := 7, dsp := 60
      seg := (coreReset.seg.set 1 { base := 0x20047000, limit := 64, r := true, w := true, x := false, io := false }).set 3
        { base := 0x2005FFF0, limit := 16, r := true, w := true, x := false, io := false } } }

/-- x with values in g1 to g6. -/
def xArgs (a b c d e f : Word) : State :=
  { x with core := { x.core with
      g := (((((x.core.g.set 1 a).set 2 b).set 3 c).set 4 d).set 5 e).set 6 f } }

/-- The default reactions are at most INTERRUPT. -/
theorem test_meets_mild : mild w ∧ mild x := by unfold mild; decide +kernel

/-- The only hypothesis of XkRegisterArithmeticResults and XkCompareAndImmediateResults; with variant 0x01 also that of
XkCoprocessorArithmetic and XkAccumulatorCrcAndAes. -/
theorem test_meets_XkArithmetic :
    issues x ∧ hasCopro x.var = true ∧ (1 ≤ (1 : Fin 33).val ∧ 1 ≤ (32 : Fin 33).val) ∧ 1 ≤ (31 : Fin 32).val := by
  unfold issues; and_intros <;> decide +kernel

theorem test_meets_XkLoadsAndStores :
    issues x ∧ memWf x.mem.bytes = true ∧
    reachable x 3 false (offsetOf x 0 12) 4 ∧ reachable x 3 false (offsetOf x 0 14) 2 ∧
    reachable x 3 false (offsetOf x 0 15) 1 ∧ reachable x 3 true (offsetOf x 0 0) 4 ∧
    reachable x 3 true (offsetOf x 0 14) 2 ∧ reachable x 3 true (offsetOf x 0 15) 1 := by
  unfold issues reachable sound; and_intros <;> decide +kernel

theorem test_meets_XkDataStack :
    issues x ∧ reachable x 1 true (x.core.dsp - 4).toNat 4 ∧ reachable x 1 false x.core.dsp.toNat 4 := by
  unfold issues reachable sound; and_intros <;> decide +kernel

theorem test_meets_XkControlFlow :
    issues x ∧ x.core.rs.length < 64 ∧ x.core.rs = [] ∧ x.core.spilled = 0 ∧
    (let y : State := { x with core := { x.core with rs := List.replicate 63 4 } }
     issues y ∧ y.core.rs.length < 64 ∧ y.core.rs = 4 :: List.replicate 62 4) := by
  unfold issues; and_intros <;> decide +kernel

theorem test_meets_XkSpecialRegisters :
    issues x ∧ 6 < (7 : BitVec 18).toNat ∧ mild x ∧ x.core.slot < 8 ∧ x.segd 7 = seg7 :=
  ⟨by unfold issues; decide +kernel, by decide, test_meets_mild.2, by decide, by decide +kernel⟩

theorem test_meets_XkTrapsEndTheRun :
    issues x ∧ mild x ∧ x.core.slot < 8 ∧ (0x08 < (9 : BitVec 18).toNat ∧ (0xF : BitVec 18).toNat < 0x10) ∧
    0x11 < (0x12 : BitVec 18).toNat ∧ (x.segd 0).limit = 0 ∧
    ¬ issues { x with core := { x.core with cycles := 100 } } ∧
    (let y : State := { x with feat := { x.feat with variant := 12 } }
     issues y ∧ mild y ∧ y.core.slot < 8 ∧ hasCopro y.var = false) := by
  unfold issues mild; and_intros <;> decide +kernel

/-- g1 at its limits: 1 for the words of inputs, 63 for a port, 3 for a time base, 47 for a channel. -/
theorem test_meets_XkReadServices :
    let y : Word → State := fun a => xArgs a 0 0 0 0 0
    let z : State := (y 5).updSlot 7 (fun a => { a with results := [(5, { status := 0, acted := 1, lost := 0, op := 0x20 })] })
    issues (y 1) ∧ ((y 1).gr 1).toNat ≤ 1 ∧ (y 1).core.slot < 8 ∧ kvGet ((y 5).slot 7).results 5 = none ∧
    kvGet (z.slot z.core.slot).results (z.gr 1).toNat = some { status := 0, acted := 1, lost := 0, op := 0x20 } ∧
    ((y 0x012F).gr 1).toNat = 0x0100 + (47 : Fin 48).val ∧ hasLoad (y 0x012F).var 47 = true ∧
    ((y 63).gr 1).toNat ≤ 63 ∧ ((y 63).si 63).vmean < 65536 ∧ ((y 63).si 63).iwet < 65536 ∧
    hasField (y 0).var = true ∧ ((y 3).gr 1).toNat ≤ 3 ∧ hasAccess (y 0).var = true := by
  intro y z; unfold issues; and_intros <;> decide +kernel

/-- A granted SET_OUT, and CAN_TX of two words through S5. -/
theorem test_meets_XkRequestsQueueOneCommand :
    let head : AppHead := { (default : AppHead) with caps := 7, nodes := [0x012F] }
    let y : State := (xArgs 0x20 0x012F 0 1 0 0).updSlot 7 (fun a => { a with store := some (head, []) })
    let z0 := xArgs 0x40 0 0 5 4 2
    let g : SegDesc := { base := 0x20047000, limit := 12, r := true, w := true, x := false, io := false }
    let z1 : State := { z0 with core := { z0.core with seg := z0.core.seg.set 5 g }
                                mem := { z0.mem with bytes := [(0x20047004, 0x23)] } }
    let z : State := z1.updSlot 7 (fun a => { a with store := some (head, []) })
    let c : HostCmd := { seq := 0, node := 0x012F, flags := 0, payload := [1] }
    let d : HostCmd := { seq := 0, node := 0, flags := 0, payload := [0x23, 0] }
    issues y ∧ y.core.issued < 16 ∧ (y.gr 3).toNat < 65536 ∧ (y.gr 3).toNat % 256 = 0 ∧
    y.requestCheck false = none ∧ payloadAbsent y 0x20 c = false ∧ paramsOk y 0x20 c = true ∧
    y.eng.room false (chargeOf 0x20 c) = true ∧
    issues z ∧ z.requestCheck true = none ∧ (z.gr 4).toNat = (5 : Fin 8).val ∧ (z.gr 6).toNat = 2 ∧
    (∀ i, i < (z.gr 6).toNat → reachable z 5 false ((z.gr 5).toNat + 4 * i) 4) ∧
    payloadAbsent z 0x40 d = false ∧ paramsOk z 0x40 d = true ∧ z.eng.room false (chargeOf 0x40 d) = true := by
  intro head y z0 g z1 z c d; unfold issues reachable sound; and_intros <;> decide +kernel

/-! ### Hypotheses: host commands -/

/-- w with class-L loads of 1 kΩ everywhere, so that no channel heats. -/
def l : State := withRegs w ((List.range 48).map (fun n => (lcLoad n, 1000)))

theorem test_meets_GeneralCommandsAnswer :
    (∀ op ∈ [0x00, 0x01, 0x02, 0x03, 0x04], served w op (pk 0 0 [])) ∧ w.pwr.fuseFailed = false := by
  unfold served; and_intros <;> decide +kernel

/-- Latches set before this event, seen in a queue with room. -/
theorem test_meets_InputReadsReturnTheSnapshot :
    served w 0x30 (pk 0 0 []) ∧ served w 0x39 (pk 0 0 []) ∧ roomy w ∧ cOpt (pk 0 0 []) = 0 ∧
    w.clk.snapSeq ≤ w.evSeq := by
  unfold served roomy; and_intros <;> decide +kernel

theorem test_meets_DiagnosticReads :
    served w 0x31 (pk 0x012F 0 []) ∧ (let y := withRegs w [(siCfg 63, 1)]
      served y 0x32 (pk 0x033F 0 []) ∧ y.siMode 63 ≠ 0 ∧ cOpt (pk 0x033F 0 []) = 0) := by
  unfold served; and_intros <;> decide +kernel

/-- The vat OPEN with one cask in the image, the same cask live. -/
def v : State :=
  let img : Image := { (default : Image) with casks := [(0x8001, [0x0102, 0x0103])] }
  { w with live := img, vat := { w.vat with st := .open, img := img, leaseFrom := 1000000000 } }

theorem test_meets_VatAndCaskReads :
    served v 0x15 (pk 0 0x1000 [0x40030040]) ∧ optBit (pk 0 0x1000 [0x40030040]) 0 = true ∧
    served v 0x15 (pk 0 0 [0x40030040]) ∧ optBit (pk 0 0 [0x40030040]) 0 = false ∧ v.vat.st ≠ .closed ∧
    served v 0x1A (pk 0x8001 0 [0]) ∧ optBit (pk 0x8001 0 [0]) 0 = false ∧
    caskMembers v.live.casks 0x8001 = some [0x0102, 0x0103] ∧ served v 0x1A (pk 0 0 [0]) := by
  unfold served; and_intros <;> decide +kernel

theorem test_meets_NetworkReads :
    let id := 0x3D
    let lin : State := w.updLin 5 (fun l => { l with rx := [(id, ⟨⟨2, 0, false, true, 1, 3, 0⟩, none, none⟩)] })
    let t1s : State := w.updT1s 1 (fun d => { d with ring := [{ len := 64, tb0 := 1, tbi := 2, base := 0, bytes := [1] }] })
    let can := pk 0 0 [3 + 8 + 65536 * 16]
    let get := pk 0 0 [5 + 256 * id + 65536]
    let rd := pk 0 0 [1 + 65536]
    w.clk.failOver = false ∧ served w 0x41 can ∧ pf can 2 0 2 = (3 : Fin 4).val ∧ pf can 2 2 2 = 2 ∧
    served lin 0x44 get ∧ pf get 2 0 3 = (5 : Fin 6).val ∧ pf get 2 8 6 = id ∧ pf get 2 16 7 = 1 ∧ cOpt get = 0 ∧
    (linRx (lin.linc 5) id).lock = none ∧ linRx (lin.linc 5) id ≠ default ∧
    served t1s 0x4C rd ∧ pf rd 2 0 1 = (1 : Fin 2).val ∧ pf rd 2 16 8 = 1 ∧ (t1s.ts 1).ring ≠ [] ∧
    served w 0x4A (pk 0 0 [1 + 65536 * 8]) ∧ served w 0x49 (pk 0 0 [1]) ∧ pf (pk 0 0 [1]) 2 0 4 = 1 ∧
    served w 0x49 (pk 0 0x1000 [8]) ∧ pf (pk 0 0x1000 [8]) 2 0 4 = 2 ^ (3 : Fin 4).val ∧
    cOpt (pk 0 0x1000 [8]) = 1 ∧ served w 0x52 (pk 0 0 []) := by
  intro id lin t1s can get rd; unfold served; and_intros <;> decide +kernel

theorem test_meets_StatusReads :
    served w 0x58 (pk 0 0 [0]) ∧ served w 0x63 (pk 0 0 [7]) ∧ pf (pk 0 0 [7]) 2 0 3 = (7 : Fin 8).val ∧
    served w 0x70 (pk 0 0 []) ∧ served w 0x71 (pk 0 0 [0x5D + 256]) ∧ pf (pk 0 0 [0x5D + 256]) 2 0 8 = 0x5D ∧
    pf (pk 0 0 [0x5D + 256]) 2 8 8 = 1 ∧ served w 0x73 (pk 0 0 []) ∧ roomy w ∧
    (∀ n, n < 96 → (w.src n).pendSeq ≤ w.evSeq) := by
  unfold served roomy; and_intros <;> decide +kernel

/-- Channel 47: off; with a pin pair; on with a latch and open load. Admission lets each change pass. -/
theorem test_meets_LoadCommandsWriteSetPoints :
    let n := 47
    let y := withRegs l [(lcBase n, 1)]
    let z := l.updLoad n (fun c => { c with act := { c.act with mode := .on }, ocLatch := true, openLoad := true })
    let sp := commanded (l.ch n)
    let same := fun (s : State) (f : LoadCh → LoadCh) => s.admission (s.updLoad n f) = none
    let swept := fun (s : State) (f : LoadCh → LoadCh) => s.admission ((s.sweepLoad n).updLoad n f) = none
    let set := fun (s : State) (q : SetPt) => same s (fun c => { c with sh := q, modeNew := true })
    free l 0x012F ∧ free y 0x012F ∧ free z 0x012F ∧ (l.ch n).demagAt = none ∧ (y.ch n).demagAt = none ∧ sp.mode = .off ∧
    served l 0x20 (pk 0x012F 0 [0]) ∧ pb (pk 0x012F 0 [0]) 2 0 = false ∧
    swept l (fun c => { c with sh := { sp with mode := .off }, modeNew := true, pend := none, ocLatch := false, retryAt := none
                               retryHeld := false }) ∧
    served l 0x20 (pk 0x012F 0 [1]) ∧ pb (pk 0x012F 0 [1]) 2 0 = true ∧ pf (pk 0x012F 0 [1]) 2 8 16 = 0 ∧
    l.pinEn n = false ∧ set l { sp with mode := .on, ramp := 0 } ∧
    served y 0x21 (pk 0x012F 0 [4095]) ∧ pf (pk 0x012F 0 [4095]) 2 0 12 = 4095 ∧ y.genEn n = true ∧
    same y (fun c => { c with sh := { sp with mode := .pwm, duty := 4095 }, modeNew := true, genNew := true }) ∧
    served l 0x23 (pk 0x012F 0 [0x020001F4, 500]) ∧
    set l { sp with mode := .pulse, train := ⟨500, 500, 2, false⟩ } ∧
    served l 0x22 (pk 0x012F 0 [255]) ∧ pb (pk 0x012F 0 [255]) 2 8 = false ∧
    same l (fun c => { c with sh := { sp with phase := 255 }, genNew := true }) ∧
    served z 0x24 (pk 0x012F 0 [1]) ∧ pf (pk 0x012F 0 [1]) 2 0 2 = 1 ∧ (z.ch n).act.mode = .on ∧
    swept z (fun c => { c with ocLatch := false, locked := false, retryAt := none, retryHeld := false
                               retryLeft := z.cfg (lcProt n) 16 4, relHold := true }) ∧
    served z 0x24 (pk 0x012F 0 [2]) ∧ pf (pk 0x012F 0 [2]) 2 0 2 = 2 ∧ same z (fun c => { c with openLoad := false }) := by
  intro n y z sp same swept set; unfold served free; and_intros <;> decide +kernel

/-- Valve 7 idle with the boost ready; channel FIO15 as an output of a running island. -/
theorem test_meets_ValveAndFieldCommands :
    let y : State := withRegs { w with valve := { w.valve with boost := .ready } } [(0x40040000, 1)]
    let z : State := (w.updField (fun f => { f with st := .run })).updFio 15 (fun f => { f with mode := 2 })
    let todo := fun (s : State) (t : VCmd) => s.updValve 7 (fun v => { v with todo := v.todo ++ [t] })
    free y 0x0207 ∧ y.boostEn = true ∧ y.valve.entryHold = false ∧ y.valveLocked 7 = false ∧ (y.vl 7).todo = [] ∧ (y.vl 7).st ≠ .release ∧ y.valve.queue = [] ∧
    (∀ p, p < 8 → (y.vl p).st = .off) ∧ served y 0x28 (pk 0x0207 0 [65535]) ∧
    (let u : State := { y with valve := { y.valve with queue := [7] } }
     y.admission (u.updValve 7 (fun v => { v with bound := y.now, todo := [.fire 65535] })) = none) ∧
    served y 0x29 (pk 0x0207 0 [100]) ∧ y.admission (todo y (.hold 100 0)) = none ∧
    served y 0x2A (pk 0x0207 0 []) ∧ cOpt (pk 0x0207 0 []) = 0 ∧ y.admission (todo y .release) = none ∧
    served y 0x2A (pk 0x0207 0x1000 []) ∧ cOpt (pk 0x0207 0x1000 []) = 1 ∧
    y.admission ((todo y .release).clearValve 7) = none ∧
    free z 0x040F ∧ served z 0x38 (pk 0x040F 0 [1]) ∧ cOpt (pk 0x040F 0 [1]) = 0 ∧ 2 ≤ (z.fio 15).mode ∧
    z.field.st = .run ∧ z.admission (z.updFio 15 (fun f => { f with sh := .on, shNew := true })) = none := by
  intro y z todo; unfold served free; and_intros <;> decide +kernel

/-- A stored image of this variant in the last place; the lease of 10 s at its last nanosecond and at its end. -/
theorem test_meets_VatCommandsChangeTheStagedImage :
    let y : State := { v with vat := { v.vat with stored := v.vat.stored.set 3 (some (true, w.var, default)) } }
    let at_ := fun (t : Nat) => ({ v with clk := { v.clk with tickNs := t } } : State)
    served w 0x10 (pk 0 0 []) ∧ w.vat.st = .closed ∧ w.flt.declared.testBit 3 = false ∧ vatOpenNow v.vat.st = true ∧
    served v 0x11 (pk 0 0 [0x40030040, 0xFF, 0x12]) ∧ served v 0x14 (pk 0 0 []) ∧
    served y 0x17 (pk 0 0 [3]) ∧ pf (pk 0 0 [3]) 2 0 2 = 3 ∧ vget y.vat.stored 3 = some (true, y.var, default) ∧
    bits v.vatCfg 0 6 = 10 ∧ v.vat.st = .open ∧
    v.vat.leaseFrom + bits v.vatCfg 0 6 * 1000000000 = ((at_ 11000000000).atPhase 0).now ∧
    ((at_ 10999999999).atPhase 0).now < v.vat.leaseFrom + bits v.vatCfg 0 6 * 1000000000 := by
  intro y at_; unfold served; and_intros <;> decide +kernel

theorem test_meets_VatCommandsAnsweredLater :
    let checked : State := { v with vat := { v.vat with st := .checked } }
    let o : Outst := ⟨1, 0x12, pk 0 0 [], 3, .vatCheck, none⟩
    let full : State := { v with eng := { v.eng with outst := List.replicate 16 o } }
    let y : State := { v with eng := { v.eng with outst := [o] }, vat := { v.vat with st := .checking } }
    let z : State := { v with eng := { v.eng with outst := [{ o with wait := .vatStore 3 }] }
                              vat := { v.vat with writing := [(3, default)] } }
    v.eng.outst.length < 16 ∧ served v 0x12 (pk 0 0 []) ∧ vatOpenNow v.vat.st = true ∧
    served checked 0x13 (pk 0 0 []) ∧ served checked 0x16 (pk 0 0 [3]) ∧ pf (pk 0 0 [3]) 2 0 2 = (3 : Fin 4).val ∧
    full.eng.outst.length = 16 ∧ served full 0x12 (pk 0 0 []) ∧
    served v 0x13 (pk 0 0 []) ∧ v.vat.st = .open ∧ v.eng.cntVat < 255 ∧
    y.eng.outst = [o] ∧ o.answer = none ∧ y.vat.st = .checking ∧ (y.atPhase 5).vatFails = [] ∧
    z.vat.writing = [((3 : Fin 4).val, default)] := by
  intro checked o full y z; unfold served; and_intros <;> decide +kernel

theorem test_meets_StagedTablesChange :
    let head : AppHead := { (default : AppHead) with nodes := [0x012F] }
    let y : State := v.updSlot 7 (fun a => { a with st := .ready, store := some (head, []) })
    vatOpenNow v.vat.st = true ∧ served v 0x18 (pk 0x8002 0 [2, 0x01030102]) ∧
    caskEntries (kvSet v.vat.img.casks 0x8002 (halves (pk 0x8002 0 [2, 0x01030102]) 3 2)) ≤ 8192 ∧
    served v 0x19 (pk 0x8001 0 []) ∧ (caskMembers v.vat.img.casks 0x8001).isSome = true ∧
    served y 0x61 (pk 0 0 [7, 1000]) ∧ (y.slot 7).st = .ready ∧ y.flt.declared.testBit 1 = false ∧
    served y 0x64 (pk 0x012F 0 [7]) ∧ pb (pk 0x012F 0 [7]) 2 8 = false ∧ head.nodes.contains 0x012F = true := by
  intro head y; unfold served; and_intros <;> decide +kernel

theorem test_meets_CanCommandsQueueAndControl :
    let y : State := w.updCan 3 (fun c => { c with st := .active, txq := List.replicate 15 { (default : CanTx) with entered := true } })
    let z : State := w.updCan 3 (fun c => { c with st := .busOff })
    let c := pk 0 0 [3 * 2 ^ 30 + 0x123, 8, 1, 2]
    y.clk.failOver = false ∧ served y 0x40 c ∧ pf c 2 30 2 = (3 : Fin 4).val ∧ (y.canc 3).st = .active ∧
    (y.canc 3).txq.length = 15 ∧ pb c 3 7 = false ∧
    served z 0x42 (pk 0 0 [3 + 256]) ∧ pf (pk 0 0 [3 + 256]) 2 8 4 = 1 ∧ (z.canc 3).st = .busOff ∧
    served y 0x42 (pk 0 0 [3 + 512]) ∧ pf (pk 0 0 [3 + 512]) 2 8 4 = 2 ∧ (∀ f ∈ (y.canc 3).txq, f.entered = true) := by
  intro y z c; unfold served; and_intros <;> decide +kernel

/-- LIN5 as commander with identifier 0x3D published in 8 bytes and in the last slot of a table. -/
theorem test_meets_LinCommandsScheduleAndPublish :
    let y := (withRegs w [(linBase 5, 3 + 0x2580 * 256), (linBase 5 + 0x100 + 4 * 5, 1 + 8 * 4),
      (linBase 5 + 0x280, 5 + 256 * 40)]).updLin 5 (fun l => { l with st := .idle })
    let c := pk 0 0 [5 + 256 * 5 + 65536 * 8, 1, 2]
    let sched := pk 0 0 [5 + 256 + 4096]
    y.clk.failOver = false ∧ served y 0x43 c ∧ pf c 2 0 3 = (5 : Fin 6).val ∧ y.linDir 5 (pf c 2 8 6) = 1 ∧
    y.linLen 5 (pf c 2 8 6) = pf c 2 16 4 ∧ served y 0x45 sched ∧ pf sched 2 0 3 = (5 : Fin 6).val ∧
    y.linCmd 5 = true ∧ (y.linc 5).st = .idle ∧ pf sched 2 8 2 = 1 ∧
    pf sched 2 16 5 < y.linTableLen 5 (pf sched 2 12 1) ∧
    served y 0x46 (pk 0 0 [5 + 256]) ∧ pf (pk 0 0 [5 + 256]) 2 8 4 = 1 := by
  intro y c sched; unfold served; and_intros <;> decide +kernel

theorem test_meets_T1sAndTimeCommands :
    let f : T1sTx := { frameId := 1, stamp := false, entered := true, bytes := [] }
    let y : State := w.updT1s 1 (fun d => { d with st := .run, txq := [f, f, f] })
    let c := pk 0 0 ([1 + 65536 * 14] ++ [1, 2, 3, 4])
    y.clk.failOver = false ∧ served y 0x48 c ∧ pf c 2 0 1 = (1 : Fin 2).val ∧ (y.ts 1).st = .run ∧
    (y.ts 1).txq.length = 3 ∧ served y 0x4D (pk 0 0 [1 + 512]) ∧ pf (pk 0 0 [1 + 512]) 2 8 4 = 2 ∧
    (∀ f ∈ (y.ts 1).txq, f.entered = true ∧ f.stamp = false) ∧ served w 0x4B (pk 0 0 [256 + 3, 5, 7, 0]) := by
  intro f y c; unfold served; and_intros <;> decide +kernel

theorem test_meets_NetworkSleepCommands :
    let y : State := w.updNm (fun n => { n with st := .awake })
    y.clk.failOver = false ∧ served y 0x50 (pk 0 0 []) ∧ cOpt (pk 0 0 []) = 0 ∧ y.nm.st ≠ .off ∧
    served y 0x50 (pk 0 0x1000 []) ∧ cOpt (pk 0 0x1000 []) = 1 ∧ y.ringUp = false ∧ served y 0x51 (pk 0 0 []) ∧
    served w 0x50 (pk 0 0 []) ∧ w.nm.st = .off ∧ w.eng.cntNotPermitted < 255 := by
  intro y; unfold served; and_intros <;> decide +kernel

theorem test_meets_AccessCommands :
    let y : State := w.updAcc (fun a => { a with dealerEnd := some 1000000001 })
    let z : State := w.updAcc (fun a => { a with code := some (0x12345678#32 ++ 0x99#32), wrong := 254, session := some 7 })
    w.eng.outst.length < 16 ∧ served w 0x59 (pk 0 0 [3]) ∧ w.acc.challenge = none ∧
    y.dealerOpen = true ∧ served y 0x5A (pk 0 0 [7, 11, 12, 1, 2, 3, 4, 5, 6, 7, 8]) ∧ y.acc.keyWrites = [] ∧
    (∀ i, i < 8 → (y.tok i).st = .empty) ∧ served y 0x5C (pk 0 0 [7]) ∧
    served z 0x5B (pk 0 0 [0x12345678, 0x99]) ∧ cOpt (pk 0 0 [0x12345678, 0x99]) = 0 ∧ z.dealerLocked = false ∧
    z.acc.code = some (pw (pk 0 0 [0x12345678, 0x99]) 2 ++ pw (pk 0 0 [0x12345678, 0x99]) 3) ∧
    served z 0x5B (pk 0 0 [0x12345678, 0x98]) ∧
    z.acc.code ≠ some (pw (pk 0 0 [0x12345678, 0x98]) 2 ++ pw (pk 0 0 [0x12345678, 0x98]) 3) ∧ mild z ∧
    z.acc.wrong < 255 ∧ z.eng.cntNotPermitted < 255 ∧
    served z 0x5D (pk 0 0 [1]) ∧ z.acc.session.isSome = true ∧ z.accEnd = none ∧
    served w 0x5D (pk 0 0 [0]) ∧ w.acc.session = none := by
  intro y z; unfold served mild; and_intros <;> decide +kernel

/-- Slot 7: one code word at the end of its code area of 8 bytes; then STARTED. -/
theorem test_meets_AppletCommands :
    let head : AppHead := { (default : AppHead) with codeSize := 8 }
    let y : State := w.updSlot 7 (fun a => { a with st := .loading, load := some head })
    let z : State := w.updSlot 7 (fun a => { a with st := .started })
    let begin_ := pk 0 0 ([7, 8, 8] ++ List.replicate 17 0)
    let code := pk 0 0 [7 + 4 * 65536, 0x01020304]
    let commit := pk 0 0 [7, 0x6522DF69]
    let seven := (7 : Fin 8).val
    memWf w.mem.bytes = true ∧ (w.slot 7).st = .empty ∧ (w.slot 7).staged = none ∧
    served w 0x60 (withOpt begin_ 0) ∧ pf begin_ 2 0 3 = seven ∧
    served y 0x60 (withOpt code 1) ∧ pf code 2 0 3 = seven ∧ (y.slot 7).load = some head ∧ (y.slot 7).st = .loading ∧
    code.payload.length = 2 ∧ pf code 2 16 16 + 4 = head.codeSize ∧ pf code 2 16 16 % 4 = 0 ∧
    served y 0x60 (withOpt commit 2) ∧ pf commit 2 0 3 = seven ∧ crc32 (y.codeWords 7 head.codeSize) = pw commit 3 ∧
    y.eng.outst.length < 16 ∧ served w 0x65 (pk 0 0 [7]) ∧ pf (pk 0 0 [7]) 2 0 3 = seven ∧
    served z 0x62 (pk 0 0 [128]) ∧ pf (pk 0 0 [128]) 2 0 8 = 2 ^ seven ∧ (z.slot 7).st = .started := by
  intro head y z begin_ code commit seven; unfold served; and_intros <;> decide +kernel

theorem test_meets_FaultClearAndTest :
    let c := pk 0 0 [0x30 + 256]
    let d := pk 0 0 [0x08 + 256]
    served w 0x72 (pk 0 0 [0, 0, 0x20000000, 3]) ∧ served w 0x74 c ∧ w.flt.st = .normal ∧ w.flt.test = none ∧
    w.eng.outst.length < 16 ∧ fixedReact (pf c 2 0 8) = none ∧ served w 0x74 d ∧
    (fixedReact (pf d 2 0 8)).isSome = true ∧ w.eng.cntNotPermitted < 255 := by
  intro c d; unfold served; and_intros <;> decide +kernel

/-- An entry in its ask step. -/
def e : Entry :=
  { cellar := false, step := 1, since := 1000000000, ticket := 3, granted := [], drained := false, okReply := 4, took := [2] }

theorem test_meets_EntryCommandsBeginTheAskStep :
    let y : State := { w with pwr := { w.pwr with entry := some e } }
    w.eng.outst = [] ∧ w.pwr.entry = none ∧ (∀ k, k < 64 → w.armed k = false) ∧ served w 0x78 (pk 0 0 []) ∧ served w 0x79 (pk 0 0 []) ∧
    y.pwr.entry = some e ∧ y.eng.outst = [] ∧ (∀ k, k < 64 → y.armed k = false) ∧ served y 0x78 (pk 0 0 []) ∧ y.eng.cntNotPermitted < 255 := by
  intro y; unfold served; and_intros <;> decide +kernel

/-- The last word of the code areas, the first behind them and the last word of SB5. -/
theorem test_meets_HoldConfirmPeekPokeAndBlockReset :
    let y : State := w.updLoad 47 (fun c => { c with keeper := ⟨true, true, false⟩ })
    let poke := fun (a : Nat) => pk 0 0 [a, 1, 0x01020304]
    served y 0x7A (pk 0x012F 0 []) ∧ (y.ch 47).keeper.held = true ∧ y.pwr.holdState ≠ 2 ∧
    w.pwr.fuseFailed = false ∧ memWf w.mem.bytes = true ∧ mild w ∧ w.eng.cntParam < 255 ∧
    served w 0x7E (pk 0 0 [0x2005FFFC, 1]) ∧ sound w 0x2005FFFC ∧ pf (pk 0 0 [0x2005FFFC, 1]) 3 0 5 = 1 ∧
    pf (pk 0 0 [0x2005FFFC, 1]) 3 8 2 = 0 ∧
    (∀ a ∈ [0x20047FFC, 0x20048000, 0x2005FFFC], served w 0x7F (poke a) ∧ (pw (poke a) 2).toNat = a ∧ a % 4 = 0 ∧
      sound w a ∧ pf (poke a) 3 0 5 = 1 ∧ pf (poke a) 3 8 2 = 0) ∧
    served w 0x7B (pk 0 0 [8]) ∧ pf (pk 0 0 [8]) 2 0 5 = 8 := by
  intro y poke; unfold served sound mild; and_intros <;> decide +kernel

/-! ### Hypotheses: events -/

/-- s at another time of its latest press tick. -/
def tick (s : State) (ns : Nat) : State := { s with clk := { s.clk with tickNs := ns } }

theorem test_meets_calm : calm w := ⟨by decide, by decide, rfl, test_meets_mild.1⟩

/-- RSTN pulses at the limits of 200 and 1000 ns; causes from Run, start-up and Park; the watchdog one missed tick
before its TIMEOUT and at it. -/
theorem test_meets_ResetCauses :
    (let t := w.cfg 0x40000010 0 7
     w.pwr.wdgMissed < t ∧ t ≤ w.pwr.wdgMissed + t ∧ w.pwr.wdgMissed + (t - 1) < t ∧ 0 < t - 1) ∧
    w.pwr.phase = .run ∧ 199 < 200 ∧ 1000 ≤ 1000 ∧ 999 < 1000 ∧ (w.atPhase 0).rstnActs = true ∧ w.inRun = true ∧
    w.running = true ∧ w.clk.pllLock = true := by
  and_intros <;> decide +kernel

theorem test_meets_StartUp :
    let up : State := { State.reset with pwr := { pwrReset with phase := .startup } }
    let booted : State := { up with pwr := { up.pwr with booted := true } }
    State.reset.pwr.phase = .off ∧ State.reset.pwr.rstnLow = false ∧ State.reset.pwr.booted = false ∧
    ({ State.reset with pwr := { pwrReset with rstnLow := true } } : State).pwr.rstnLow = true ∧
    (let b : BootIn := { (default : BootIn) with fuses := [(some 1, some 1)], xclkSum := 5120, xclkWin := List.replicate 33 320 }
     fuseAccepted b.fuses = true ∧ xclkFound b = 5) ∧ up.pwr.phase = .startup ∧ up.pwr.booted = false ∧ up.pwr.rstnLow = false ∧
    booted.pwr.phase = .startup ∧ booted.pwr.booted = true ∧ booted.appTodo = [] ∧
    w.inRun = true ∧ w.pwr.woken = false ∧ w.appTodo = [] := by
  intro up booted; and_intros <;> decide +kernel

/-- Each monitor in both states, the lease at its last instant, a window count of XCLK that fails. -/
theorem test_meets_SupplyClockLeaseAndLimp :
    let low : State := { w with supply := { w.supply with low := true, ov := true } }
    let rc : State := { w with clk := { w.clk with failOver := true, rampDir := 1, rampExp := 3 } }
    let lease : State := { w with pwr := { w.pwr with holdState := 1, leaseEnd := some 1000000000 } }
    calm w ∧ w.supply.low = false ∧ w.supply.ov = false ∧ w.supply.vioOk = true ∧
    low.supply.low = true ∧ low.supply.ov = true ∧
    w.clk.failOver = false ∧ w.clk.src = 1 ∧ w.clk.badWin = false ∧ windowFails w.clk.xclkSel 279 = true ∧
    windowFails w.clk.xclkSel 280 = false ∧ windowFails w.clk.xclkSel 360 = false ∧ windowFails w.clk.xclkSel 361 = true ∧
    rc.clk.failOver = true ∧ rc.clk.rampDir = 1 ∧ rc.clk.rampExp = 3 ∧
    lease.pwr.holdState = 1 ∧ lease.pwr.leaseEnd = some (lease.atPhase 0).now ∧
    (∀ e, e < 4 → (let y : State := { w with clk := { w.clk with rampDir := 2, rampExp := e } }
      y.clk.rampDir = 2 ∧ y.clk.rampExp = e)) ∧ w.inRun = true ∧
    w.powered = true ∧ w.pwr.limpActive = false :=
  ⟨test_meets_calm, by and_intros <;> decide +kernel⟩

/-- A PING with a good CRC, with a wrong one, out of sequence and with a full queue; a first reply read whole; a
deferred NOP; the loss of the host at its timeout and at its error limit. -/
theorem test_meets_LinkTransactions :
    let y : State := { w with link := { w.link with fresh := false, expect := 7 } }
    let ws : List Word := [0xA5070101, 0, 3]
    let sent := ws ++ [crc32 ws]
    let c := packetOf sent
    let r : Reply := { (default : Reply) with seq := 7, op := 1 }
    let q : State := { y with link := { y.link with replies := [r] } }
    let h : State := { y with link := { y.link with held := [r] } }
    let full : State := { y with eng := { y.eng with qNext := List.replicate 128 default } }
    let d : State := { y with eng := { y.eng with deferred := [⟨⟨0, pk 0 1 [], 1, false, none, 0⟩, 0⟩] } }
    let cfg := withRegs { y with link := { y.link with lossState := 1, silentFrom := 995000000 } } [(0x40020014, 0x00021005)]
    y.linkUp = true ∧ y.draining = false ∧ y.link.held = [] ∧ bits 0xA5070101 24 8 = 0xA5 ∧ bits 0xA5070101 0 8 = 1 ∧
    crc32 (sent.take 3) = sent[3]?.getD 0 ∧ crc32 (([0xA5070101, 0, 4, crc32 ws] : List Word).take 3) ≠ crc32 ws ∧
    c.seq = y.link.expect ∧ y.arrivalStatus 1 c = none ∧ (y.atPhase 5).queueAccepts 1 c = true ∧
    w.link.fresh = true ∧ ({ y with link := { y.link with expect := 8 } } : State).link.expect ≠ c.seq ∧
    4 * 4 ≤ y.rxFree ∧ State.reset.linkUp = false ∧
    (withRegs y [(0x40020014, 0x00011005)]).cfg lossCfg 16 2 = 1 ∧ (cfg.ch 47).keeper.held = false ∧
    (full.atPhase 5).queueAccepts 1 c = false ∧ mild y ∧ q.link.replies = [r] ∧ h.link.held = [r] ∧
    h.link.fits r = true ∧ d.inRun = true ∧ d.targetStands 0 (pk 0 1 []) = true ∧
    mild cfg ∧ cfg.inRun = true ∧ cfg.pwr.woken = false ∧ (cfg.atPhase 0).lossCause = 1 ∧
    (let e : State := { cfg with link := { cfg.link with silentFrom := 1000000000, errRun := 255 } }
     (e.atPhase 0).lossCause = 2) ∧ cfg.cfg lossCfg 16 2 = 2 := by
  intro y ws sent c r q h full d cfg; unfold mild; and_intros <;> decide +kernel

/-- The diagnostic window's end and the racking of the applet window's close at their first PER cycle; store writes of
a load and of an erasure in progress. -/
theorem test_meets_FrameSteps :
    let y : State := { w with appTodo := [7], core := { w.core with run := .running, slot := 7 } }
    let head : AppHead := { (default : AppHead) with codeSize := 8 }
    let o : Outst := ⟨1, 0x60, pk 0 0 [], 3, .appletStore 7 false, none⟩
    let z : State := (w.updSlot 7 (fun a => { a with st := .writing, load := some head }))
    let a : State := { z with eng := { z.eng with outst := [o] } }
    let b : State := { z with eng := { z.eng with outst := [{ o with wait := .appletStore 7 true }] } }
    w.clk.tickCount ≠ 0 ∧ w.clk.sampled = false ∧ w.clk.loadRst = false ∧ 3 * w.period = 40 * (w.atPhase 75000).clk.phase ∧
    mild y ∧ y.inRun = true ∧ y.pwr.woken = false ∧ 9 * y.period = 100 * (y.atPhase 90000).clk.phase ∧ y.appTodo ≠ [] ∧
    y.core.run = .running ∧ y.core.slot < 8 ∧ w.core.run ≠ .running ∧ a.eng.outst = [o] ∧ o.answer = none ∧ (a.slot 7).load = some head ∧
    b.eng.outst.length = 1 := by
  intro y head o z a b; unfold mild; and_intros <;> decide +kernel

/-- Channel 47 at the instants at which its offset, its train and its ramp end, in DEMAG with and without a pending
turn-on, and a pin at and above FMAX. -/
theorem test_meets_LoadDriveEvents :
    let c := fun (f : LoadCh → LoadCh) => w.updLoad 47 f
    let wait := c (fun c => { c with act := { c.act with mode := .wait, after := .on, offset := 1 }, modeAt := 1000000000 })
    let t : Train := ⟨500, 500, 1, true⟩
    let pulse := c (fun c => { c with act := { c.act with mode := .pulse, train := t }, modeAt := 1000000000 - trainNs t })
    let low := c (fun c => { c with act := { c.act with mode := .pulse, train := { t with pol := false } }
                                    modeAt := 1000000000 - trainNs t })
    let demag := c (fun c => { c with demagAt := some 5 })
    let pend := c (fun c => { c with demagAt := some 5, pend := some (c.sh) })
    let fresh : State := { pend with eng := { pend.eng with rackSets := [{ (default : RackSet) with node := 0x012F, pend := true }] } }
    let ramp := c (fun c => { c with act := { c.act with mode := .ramp, ramp := 1 }
                                     gen := { c.gen with run := some (200, 0, rampCode), upd := 160000000 } })
    let long := c (fun c => { c with demagAt := some 899999999 })
    let pin := (withRegs w [(lcBase 47, 3 + 7 * 4)]).updLoad 47 (fun c => { c with act := { c.act with mode := .pin } })
    (wait.ch 47).act.mode = .wait ∧ (wait.ch 47).modeAt + (wait.ch 47).act.offset * 100000 = (wait.atPhase 10000).now ∧
    (wait.ch 47).demagAt = none ∧ (pulse.ch 47).act.mode = .pulse ∧
    (pulse.ch 47).modeAt + trainNs (pulse.ch 47).act.train = (pulse.atPhase 0).now ∧ (pulse.ch 47).act.train.pol = true ∧
    (low.ch 47).act.train.pol = false ∧ (demag.ch 47).demagAt = some 5 ∧ (demag.ch 47).pend = none ∧
    (pend.ch 47).pend = some (w.ch 47).sh ∧ pend.pendFresh 47 = false ∧ fresh.pendFresh 47 = true ∧
    (let both := c (fun c => { c with act := { c.act with mode := .wait, offset := 1 }, modeAt := 999900000, demagAt := some 5 })
     (both.ch 47).act.mode = .wait ∧ (both.ch 47).modeAt + (both.ch 47).act.offset * 100000 = (both.atPhase 0).now ∧
     (both.ch 47).demagAt = some 5 ∧ (both.ch 47).pend = none) ∧
    (ramp.ch 47).act.mode = .ramp ∧
    genRun (ramp.ch 47).gen ((ramp.atPhase 5).eAt (ramp.atPhase 5).now) = (some (200, 0, rampCode), false) ∧
    4095 ≤ runDuty (ramp.ch 47) (200, 0, rampCode) ((ramp.atPhase 5).eAt (ramp.atPhase 5).now) ∧
    (long.ch 47).demagAt = some 899999999 ∧ 899999999 + 100000000 < (long.atPhase 0).now ∧ (long.ch 47).clampSeen = false ∧
    mild long ∧ 0 < (1000000000 - 1) / pin.fmax 7 ∧ (1000000000 - 1) / pin.fmax 7 * pin.fmax 7 < 1000000000 ∧
    1000000000 ≤ (1000000000 / pin.fmax 7 + 1) * pin.fmax 7 ∧ (pin.ch 47).act.mode = .pin ∧
    pin.cfg (lcBase 47) 2 3 = (7 : Fin 8).val ∧ mild pin ∧
    after (.pinOverFrequency 0 7 (List.replicate 4 ((1000000000 - 1) / pin.fmax 7)) 5) pin
      (fun t => pin.loads.filter (fun k => t.pinFault k && !pin.pinFault k) == [47]) = true := by
  intro c wait t pulse low demag pend fresh ramp long pin; unfold mild; and_intros <;> decide +kernel

/-- Channel 0 on and gated, 1 mA above its threshold, with and without retries; each instant at its first nanosecond. -/
theorem test_meets_LoadProtectionEvents :
    let c := fun (f : LoadCh → LoadCh) => w.updLoad 0 f
    let on := c (fun c => { c with act := { c.act with mode := .on } })
    let retry := c (fun c => { c with retryAt := some 1000000000, thermLatch := true, lastLatch := some 0 })
    let ovr : State := w.updCl 15 (fun k => { k with overFrom := some 900000000 })
    (on.atPhase 0).gate 0 = true ∧ ocThreshold 0 (on.cfg (lcProt 0) 0 4) < ocThreshold 0 (on.cfg (lcProt 0) 0 4) + 1 ∧
    mild on ∧ (on.ch 0).retryLeft ≠ 0 ∧
    ((on.updLoad 0 (fun c => { c with retryLeft := 0 })).ch 0).retryLeft = 0 ∧ hasLoad on.var 0 = true ∧
    (on.ch 0).thermLatch = false ∧ (retry.ch 0).retryAt = some (retry.atPhase 0).now ∧ (retry.ch 0).thermLatch = true ∧
    (retry.ch 0).lastLatch = some 0 ∧ 0 + 1000000000 = (retry.atPhase 0).now ∧
    (ovr.cl 15).overFrom = some 900000000 ∧ 900000000 + 100000000 = (ovr.atPhase 0).now := by
  intro c on retry ovr; unfold mild; and_intros <;> decide +kernel

/-- Valve 7 with I_PEAK 4 A in every state of its profile, with peak currents at and one below a fifth of I_PEAK. -/
theorem test_meets_ValveFiringEvents :
    let r := withRegs w [(vlCfg 7, 0x50)]
    let c := fun (f : Valve → Valve) => r.updValve 7 f
    let q := c (fun v => { v with st := .defer })
    let queued : State := { q with valve := { q.valve with queue := [7] } }
    let peak := c (fun v => { v with st := .peak, peakAt := 0, durAt := 1000000000 })
    let ovr := c (fun v => { v with st := .peak, peakAt := 0, durAt := 0, duration := 1 })
    let drop := c (fun v => { v with st := .drop, phaseAt := 1000000000 - w.decayNs 7 })
    let hold := c (fun v => { v with st := .hold, durAt := 0, duration := 1 })
    let rel := c (fun v => { v with st := .release, firing := true, phaseAt := 1000000000 })
    let pend := c (fun v => { v with st := .release, pend := some (.hold 5 6), phaseAt := 1000000000 - w.decayNs 7 })
    let fire := c (fun v => { v with st := .release, pend := some (.fire 5), phaseAt := 1000000000 - w.decayNs 7 })
    let ready : State := { fire with valve := { fire.valve with queue := [0, 7] } }
    queued.mayStart 7 = true ∧ mild queued ∧ 0 < queued.readyLevel ∧ queued.readyLevel ≤ queued.readyLevel ∧
    ((queued.updValve 6 (fun v => { v with st := .release })).vl (partner 7)).st = .release ∧
    (queued.updValve 6 (fun v => { v with st := .release })).mayStart 7 = true ∧
    (ready.vl 7).pend = some (.fire 5) ∧ ready.holdOff = false ∧ mild ready ∧
    ready.valve.queue.find? (fun p => ready.groupOf p == ready.groupOf 7) = some 7 ∧
    (∀ p, p < 8 → (ready.vl p).st ≠ .peak) ∧ (ready.vl (partner 7)).st ≠ .drop ∧ (ready.vl 7).st = .release ∧
    (ready.vl 7).phaseAt + ready.decayNs 7 = (ready.atPhase 0).now ∧ (peak.vl 7).st = .peak ∧
    (peak.vl 7).peakAt + peak.peakNs 7 ≤ (peak.atPhase 0).now ∧ mild peak ∧ peak.iPeak 7 = 4000 ∧
    peak.iPeak 7 ≤ 5 * 800 ∧ 5 * 799 < peak.iPeak 7 ∧ durOver (peak.vl 7) (peak.atPhase 0).now = false ∧
    durOver (ovr.vl 7) (ovr.atPhase 0).now = true ∧ (drop.vl 7).st = .drop ∧
    (drop.vl 7).phaseAt + drop.decayNs 7 = (drop.atPhase 0).now ∧ (hold.vl 7).st = .hold ∧
    durOver (hold.vl 7) (hold.atPhase 0).now = true ∧ (rel.vl 7).st = .release ∧ (rel.vl 7).pend = none ∧
    (rel.vl 7).firing = true ∧ (pend.vl 7).pend = some (.hold 5 6) ∧
    (pend.vl 7).phaseAt + pend.decayNs 7 = (pend.atPhase 0).now := by
  intro r c q queued peak ovr drop hold rel pend; unfold mild; and_intros <;> decide +kernel

theorem test_meets_ValveProtectionAndBoostEvents :
    let hold := (withRegs w [(vlCfg 7, 0x140A50)]).updValve 7 (fun v => { v with st := .hold, phaseAt := 999200000 })
    let b := fun (x : BoostSt) => ({ w with valve := { w.valve with boost := x, chargeAt := 950000000 } } : State)
    (hold.vl 7).st = .hold ∧ mild hold ∧ (hold.vl 7).phaseAt + 16 * 1000000 / hold.chopKhz 7 = (hold.atPhase 0).now ∧
    2 * 124 < hold.iHold 7 ∧ hasBank w.var 3 = true ∧ hasValve w.var 7 = true ∧
    (b .charge).valve.boost = .charge ∧ (b .ready).readyLevel ≤ w.readyLevel ∧ w.readyLevel - 1 < (b .ready).readyLevel ∧
    (b .charge).valve.chargeAt + 50000000 = ((b .charge).atPhase 0).now ∧ mild (b .charge) ∧
    (b .discharge).valve.boost = .discharge ∧ 1400 * 10 ≤ 12000 + 2000 ∧
    hasBoost w.var = true ∧ 7200 < 7201 ∧ w.valve.dump = false ∧ w.vTarget + 299 < w.vTarget + 300 := by
  intro hold b; unfold mild; and_intros <;> decide +kernel

/-- Port 63 in service: its first sample after a change and the sample that makes N; a watch armed, completed at once, and
at the end of its 10 ticks. -/
theorem test_meets_InputEvents :
    let c := pk 0x033F 0 [10, 0, 0]
    let q : Outst := ⟨1, 0x33, c, 3, .watch 0 10 10 (2 ^ 64 - 1), none⟩
    let y : State := { w with eng := { w.eng with outst := [q] } }
    let p := withRegs w [(siCfg 63, 0x1401)]
    let seen := p.updPort 63 (fun p => { p with snapValid := true, snapState := true })
    let at_ := fun (run swept : Nat) (valid : Bool) => p.updPort 63 (fun p => { p with run := run, swept := swept, valid := valid })
    let k := fun (s : State) => (s.atPhase 5000).samplesTo 63 (s.atPhase 5000).now - (s.atPhase 5000).samplesTo 63 (s.si 63).swept
    let hi := contactRaw (.pin 12000 0) (p.reg (siCfg 63)) (bits (p.reg (siCfg 63)) 3 3) false
    served w 0x33 c ∧ w.eng.outst.length < 16 ∧
    w.watchCause w.askedNow ((pw c 3).toNat + (pw c 4).toNat * 2 ^ 32) (pf c 2 0 16) w.clk.tickCount (w.portsOf c.node) = none ∧
    served seen 0x33 c ∧ seen.eng.outst = [] ∧
    seen.watchCause seen.askedNow ((pw c 3).toNat + (pw c 4).toNat * 2 ^ 32) (pf c 2 0 16) seen.clk.tickCount
      (seen.portsOf c.node) = some 0 ∧
    y.eng.outst = [q] ∧
    (∀ k, k < 64 → (2 ^ 64 - 1 : Nat).testBit k = true → (y.si k).snapValid = true → (y.si k).snapState = (0 : Nat).testBit k) ∧
    10 = y.framesSince 10 ∧ p.inRun = true ∧ p.pwr.woken = false ∧ p.pwr.entry = none ∧ p.siMode 63 ≠ 0 ∧ p.supply.low = false ∧
    hi = some true ∧ (p.si 63).raw = false ∧ p.siNeed 63 = 2 ∧
    k (at_ 0 1000000000 false) = 1 ∧ ((at_ 0 1000000000 false).atPhase 5000).now - 10 * 5000 - 1 ≤ 1000000000 ∧
    k (at_ 0 999950000 false) = 2 ∧ ((at_ 0 999950000 false).atPhase 5000).now - 10 * 10010 - 1 ≤ 999950000 ∧
    ((at_ 0 999950000 true).si 63).valid = true ∧ ((at_ 0 999950000 true).si 63).state = false := by
  intro c q y p seen at_ k hi; unfold served; and_intros <;> decide +kernel

/-- The island in each state of its link, with three and four bad cycles, and FV24 inside and outside each limit. -/
theorem test_meets_IslandEvents :
    let y := withRegs w [(0x40060000, 1)]
    let f := fun (st : IslandSt) (g : Field → Field) =>
      y.updField (fun f => g { f with st := st, locked := true, serving := true, fv24State := 0 })
    let lost := fun (cause since : Nat) => f .lost (fun f => { f with lossCause := cause, since := since })
    (f .powering id).field.st = .powering ∧ (f .training id).field.st = .training ∧ (f .config id).field.st = .config ∧
    (f .run id).field.st = .run ∧ (f .run id).field.locked = true ∧ (f .run id).field.serving = true ∧
    (f .run id).field.badRun < 3 ∧ calm (f .run id) ∧
    (f .run (fun f => { f with badRun := 3 })).field.badRun = 3 ∧ calm (f .run (fun f => { f with badRun := 3 })) ∧
    (f .run (fun f => { f with badDn := 4 })).field.badDn = 4 ∧ (f .lost id).fieldEn = true ∧
    (∀ cause, cause < 6 → ((lost cause 999000000).field.lossCause = cause ∧
      (lost cause 999000000).field.since + 1000000 = ((lost cause 999000000).atPhase 0).now)) ∧
    (lost 5 900000000).field.since + 100000000 = ((lost 5 900000000).atPhase 0).now ∧
    (f .run (fun f => { f with pwrFaults := 3 })).field.pwrFaults = 3 ∧ (f .run id).field.pwrFaults < 3 ∧
    (f .run id).field.iLost = false ∧ (f .run id).field.iOver = false ∧ (f .run id).field.warnOk = none ∧
    (f .run id).field.lostOk = none ∧ (f .run id).field.overOk = none ∧ 10 * 1000000 ≤ ((f .run id).atPhase 0).now ∧
    (f .run (fun f => { f with iLost := true })).field.iLost = true ∧ ((f .run id).fio 15).drive = .off ∧
    (((f .run id).updFio 15 (fun c => { c with drive := .on, clrReq := true })).fio 15).clrReq = true := by
  intro y f lost; unfold calm mild; and_intros <;> decide +kernel

/-- FIO15 as an input that takes its first and a second level; as an output in current limit, hot, and with a readback that
differs and agrees; a pulse of 1 µs at its end. -/
theorem test_meets_FieldChannelEvents :
    let y := (withRegs w [(fioCfg 15, 0x10013), (fioCfg 3, 0x13)]).updField (fun f => { f with st := .run, serving := true, fv24State := 0 })
    let c := fun (g : Fio → Fio) => y.updFio 15 (fun c => g { c with mode := 3 })
    let valid := c (fun c => { c with valid := true, iValid := true })
    let on := c (fun c => { c with gate := true, iGate := true, iDrive := .on, drive := .on })
    let hot := c (fun c => { c with ftherm := true, iHot := true })
    let pulse := c (fun c => { c with iDrive := .pulse true 999999000 1 })
    let v := fun (s : State) (mv : Nat) => fioLevel (s.cfgBit (fioCfg 15) 2) mv (s.fio 15).lvl
    (∀ s ∈ [c id, valid, on, hot], calm s) ∧ (∀ s ∈ [c id, valid, on, hot], mirrored s) ∧
    ((c id).fio 15).mode % 2 = 1 ∧ v (c id) 24000 = true ∧ ((c id).fio 15).iValid = false ∧
    max ((c id).fio 15).lvlFrom ((c id).now - 10 * 2000) + (c id).cfg (fioCfg 15) 4 8 * 10000 ≤ (c id).now ∧
    (valid.fio 15).iValid = true ∧ (valid.fio 15).iIn = false ∧ v valid 24000 = true ∧
    (on.fio 15).iGate = true ∧ (on.fio 15).iOc = false ∧ on.cfg (fioCfg 15) 16 8 = 1 ∧ (on.fio 15).limFrom = none ∧
    on.now - 10 * 100000 + 1 * 1000000 = on.now ∧ (on.fio 15).iHot = false ∧ (hot.fio 15).iHot = true ∧
    (on.fio 15).mode = 3 ∧ (on.fio 15).iRb = false ∧ v on 0 ≠ (on.fio 15).iGate ∧ v on 24000 = (on.fio 15).iGate ∧
    max (on.fio 15).lvlFrom ((on.fio 15).gateAt + 200000) + (on.cfg (fioCfg 15) 29 3 + 1) * 100000 ≤ on.now ∧
    (pulse.fio 15).iDrive = .pulse true 999999000 1 ∧ 999999000 + 1 * 1000 = (pulse.atPhase 0).now := by
  intro y c valid on hot pulse v; unfold calm mild mirrored; and_intros <;> decide +kernel

/-- CANC3 with an object, a filter and a frame at the head of its queue, and frames for each of them; error counts at
127 and 128. -/
theorem test_meets_CanEvents :
    let y := withRegs w [(canBase 3, 1), (canBase 3 + 0x200 + 4 * 127, 0x80000123), (canBase 3 + 0x100, 0x80000200)]
    let t : CanTx := { (default : CanTx) with id := 4, entered := true, single := true }
    let c := fun (f : Can → Can) => y.updCan 3 f
    let up := c (fun c => { c with st := .active, tec := 255, txq := [t] })
    let bare := (withRegs w [(canBase 3, 1)]).updCan 3 (fun c => { c with st := .active })
    let fr : CanFrame := ⟨0x123, false, 8, false, false, false, false, 5000, [1, 2, 3, 4, 5, 6, 7, 8]⟩
    let test : State := w.updCan 1 (fun c => { c with st := .selftest, filtSpare := true })
    (test.canc 1).st = .selftest ∧ hasCan test.var 1 = true ∧ (test.canc 1).filtSpare = true ∧ calm test ∧
    ((c (fun c => { c with st := .integrating })).canc 3).st = .integrating ∧
    ((c (fun c => { c with st := .busOff, recovering := true })).canc 3).recovering = true ∧
    (1 : Fin 4).val < 2 ∧ w.running = true ∧ (w.canc 1).txdTimeout = false ∧
    (up.canc 3).st = .active ∧ calm up ∧ (up.canc 3).tec = 255 ∧ fr.fdf = false ∧ fr.remote = false ∧
    up.boundObj 3 fr = some 127 ∧ (canObj (up.canc 3) 127).fail = false ∧
    up.boundObj 3 { fr with id := 0x200 } = none ∧ up.matchFilter 3 { fr with id := 0x200 } = some 0 ∧
    (up.canc 3).log.length < 32 ∧ bare.boundObj 3 fr = none ∧ bare.matchFilter 3 fr = none ∧
    (bare.canc 3).st = .active ∧ mild bare ∧
    (up.canc 3).trxSleep = false ∧ up.ringFrame 3 fr = none ∧ up.ringFrame 3 { fr with id := 0x200 } = none ∧
    bare.ringFrame 3 fr = none ∧ (bare.canc 3).tec < 256 ∧ { fr with remote := true }.remote = true ∧ up.nmCtrl ≠ 3 ∧
    (canObj ((up.updCan 3 (fun c => { c with obj := [(127, { (default : CanObj) with lock := some (0, 5) })] })).canc 3) 127).lock.isSome = true ∧
    (canObj (up.canc 3) 127).lock.isSome = false ∧ t.single = true ∧
    canOffer ((c (fun c => { c with st := .active, txq := [{ t with single := false }] })).canc 3)
      (up.cfgBit (canBase 3) 5) ((up.atPhase 5).now - 0) = some { t with single := false } ∧
    up.canMode 3 = 0 ∧ up.supply.low = false ∧
    canOffer (up.canc 3) (up.cfgBit (canBase 3) 5) ((up.atPhase 5).now - 0) = some t ∧ (up.canc 3).events.length < 16 := by
  intro y t c up bare fr test; unfold calm mild; and_intros <;> decide +kernel

/-- The last object of CANC3, free, locked by another master and by the reader; a lock at the end of its lease. -/
theorem test_meets_CanObjectLocks :
    let b : CanObj := { (default : CanObj) with frameCnt := 1 }
    let y := fun (k : Option (Nat × Nat)) => w.updCan 3 (fun c => { c with obj := [(127, { b with lock := k })] })
    let m : Master := .host
    let a := canBase 3 + 0x1000 + 0x50 * 127
    let old := (y (some (m.id, 1000000000 - w.lockNs 3)))
    opens ((y none).atPhase 5) m false a ∧ (canObj ((y none).canc 3) 127).fail = false ∧
    w.declaredMaster m.id = false ∧ (canObj ((y none).canc 3) 127).lock = none ∧
    (canObj ((y (some (Master.ce.id, 0))).canc 3) 127).lock = some (Master.ce.id, 0) ∧ Master.ce.id ≠ m.id ∧
    opens ((y (some (m.id, 0))).atPhase 5) m false (a + 4 * canLast b.cur) ∧
    (canObj ((y (some (m.id, 0))).canc 3) 127).lock = some (m.id, 0) ∧ calm old ∧
    1000000000 - w.lockNs 3 + old.lockNs 3 = (old.atPhase 0).now := by
  intro b y m a old; unfold opens calm mild; and_intros <;> decide +kernel

/-- LIN5 as commander at the end of slots of 10 ms, first and last, and as responder; a buffer and its lock. -/
theorem test_meets_LinEvents :
    let r := withRegs w [(linBase 5, 1 + 2 + 19200 * 256), (linBase 5 + 0x100 + 4 * 5, 1 + 8 * 4),
      (linBase 5 + 0x100 + 4 * 6, 2 + 8 * 4), (linBase 5 + 0x200, 6 + 256 * 20), (linBase 5 + 0x204, 5 + 256 * 20),
      (0x400B0008, 2 ^ 13)]
    let s := withRegs r [(linBase 5, 1)]
    let run := fun (f : Lin → Lin) => r.updLin 5 (fun l => f { l with st := .running, table := 0, slotAt := 990000000 })
    let first := run (fun l => { l with pub := [(5, ⟨1, 2, true, true⟩)] })
    let idle := s.updLin 5 (fun l => { l with st := .idle, activeAt := 0 })
    let m : Master := .ce
    let a := linBase 5 + 0x400 + 0x10 * 6
    let held := fun (t : Nat) => r.updLin 5 (fun l => { l with rx := [(6, ⟨default, none, some (m.id, t)⟩)] })
    let asleep := fun (t : Nat) => r.updLin 5 (fun l => { l with st := .sleep, waking := true, since := t })
    (first.linc 5).st = .running ∧
    (first.linc 5).slotAt + (first.linSlotDef 5 0 0).2 * 500000 = (first.atPhase 0).now ∧ (first.linc 5).switch = 0 ∧
    first.supply.low = false ∧ first.linDir 5 5 = 1 ∧ (linPub (first.linc 5) 5).valid = true ∧
    ((run (fun l => { l with switch := 3, goToSleep := true })).linc 5).switch = 3 ∧
    (∀ k, k < 3 → ((run (fun l => { l with switch := k })).linc 5).switch = k) ∧
    linPid 5 = 0x85 ∧ linPid (0x84 % 64) ≠ 0x84 ∧
    (let v := s.updLin 5 (fun l => { l with st := .idle, pub := [(5, ⟨1, 2, true, true⟩)] })
     v.linDir 5 5 = 1 ∧ (linPub (v.linc 5) 5).valid = true ∧ (v.linc 5).st = .idle) ∧
    (let f := run (fun l => { l with frameId := some 6, beganAt := 1000000000 - linMaxNs 8 19200 })
     f.linDir 5 6 = 2 ∧ f.linLen 5 6 = 8 ∧ f.cfg (linBase 5) 8 16 = 19200 ∧ calm f ∧
     (f.linc 5).beganAt + linMaxNs (f.linLen 5 6) (f.cfg (linBase 5) 8 16) = (f.atPhase 0).now ∧ linSum 6 true [0xA5] ≠ 0) ∧
    (let g := s.updLin 5 (fun l => { l with st := .idle, frameId := some 0x3C })
     (g.linc 5).frameId = some (0x3C : Fin 64).val ∧ g.linGroup 5 = true ∧ g.linCmd 5 = false ∧ g.linDir 5 0x3C = 0 ∧
     linSum 0x3C (g.linEnhanced 5 0x3C) [0x00, 0xFF, 0xFF, 0xFF, 0xFF, 0xFF, 0xFF, 0xFF] ≠ 1) ∧
    (idle.linc 5).activeAt = 0 ∧ ((asleep 0).linc 5).st = .sleep ∧ ((asleep 0).linc 5).waking = true ∧
    (idle.linc 5).st = .idle ∧ idle.linCmd 5 = false ∧ idle.linGroup 5 = true ∧ idle.linDir 5 5 = 1 ∧ (linPub (idle.linc 5) 5).valid = false ∧
    idle.linDir 5 6 = 2 ∧ ((run (fun l => { l with frameId := some 6 })).linc 5).frameId = some (6 : Fin 64).val ∧
    (linRx (r.linc 5) 6).lock = none ∧ calm r ∧ opens (r.atPhase 5) m false a ∧ r.declaredMaster m.id = false ∧
    opens ((held 0).atPhase 5) m false (a + 12) ∧ (linRx ((held 0).linc 5) 6).lock = some (m.id, 0) ∧
    1000000000 - r.lockNs 0 + r.lockNs 0 = (r.atPhase 0).now ∧ calm idle ∧
    (let f := r.updLin 5 (fun l => { l with st := .fault, since := 900000000 })
     (f.linc 5).st = .fault ∧ (f.linc 5).since + 100000000 = (f.atPhase 0).now) ∧
    (let y := tick idle 4000000000
     (y.linc 5).activeAt + 4000000000 = (y.atPhase 0).now) ∧
    ((asleep 850000000).linc 5).since + 150000000 = ((asleep 850000000).atPhase 0).now := by
  intro r s run first idle m a held asleep; unfold opens calm mild; and_intros <;> decide +kernel

/-- TS1 as coordinator and as follower, its ring one frame below full; a frame sent without PLCA, in its opportunity, in a
burst, and one whose stamp is asked for; base 3 at the end of its timeout. -/
theorem test_meets_T1sEvents :
    let c := fun (s : State) (f : T1s → T1s) => s.updT1s 1 (fun q => f { q with st := .run })
    let follow := c (withRegs w [(t1sBase 1, 3 + 256 * 5)]) (fun q => { q with plcaOk := true, beaconAt := 999600000 })
    let coord := c (withRegs w [(t1sBase 1, 3), (t1sBase 1 + 4, 1 + 256 * 128)]) (fun q => { q with plcaOk := true })
    let run := c w id
    let f : T1sTx := { frameId := 1, stamp := false, entered := true, bytes := [] }
    let bytes : List Byte := List.replicate 60 0xFF
    let full := c w (fun q => { q with ring := List.replicate 15 { (default : T1sRx) with len := 60 } })
    let sent := fun (s : State) (at_ : Nat) => c s (fun q => { q with txq := [f], sentAt := at_ })
    let stamped := c w (fun q => { q with txq := [{ f with stamp := true }], tsq := List.replicate 7 (0, 0, 0) })
    let base := (withRegs w [(tbCfg 3, 0x10000)]).updTb 3 (fun b => { b with sync := .tracking, ageFrom := 999000000 })
    ((w.updT1s 1 (fun q => { q with st := .starting })).ts 1).st = .starting ∧ (run.ts 1).st = .run ∧
    (follow.ts 1).plcaOk = true ∧ follow.follower 1 = true ∧
    (follow.ts 1).beaconAt + 400000 = (follow.atPhase 0).now ∧ calm follow ∧ calm coord ∧ coord.coordinator 1 = true ∧
    frameLenOk bytes = true ∧ run.destOk 1 bytes = true ∧ isPtp bytes = false ∧ (full.ts 1).ring.length = 15 ∧
    full.destOk 1 bytes = true ∧ ringBytes (full.ts 1).ring + bytes.length ≤ 8192 ∧
    (∀ s ∈ [sent w 0, sent coord 0, sent follow 0, sent coord 999990000], (s.ts 1).txq.find? (·.entered) = some f ∧
      s.supply.low = false) ∧
    (sent w 0).plcaOn 1 = false ∧ (sent coord 0).plcaOn 1 = true ∧ (sent follow 0).plcaOn 1 = true ∧
    (sent follow 0).now - 0 - 6400 ≥ ((sent follow 0).ts 1).beaconAt + (sent follow 0).t1sCfg 1 8 3 * ((sent follow 0).t1sCfg 1 16 8 * 100) ∧
    ((sent coord 999990000).ts 1).burst < bits ((sent coord 0).reg (t1sBase 1 + 4)) 0 8 ∧
    (sent coord 999990000).now - 0 - 6400 ≤ 999990000 + (sent coord 0).cfg (t1sBase 1 + 4) 8 8 * 100 ∧
    (stamped.ts 1).txq.find? (·.entered) = some { f with stamp := true } ∧ stamped.plcaOn 1 = false ∧ isPtp f.bytes = false ∧
    (stamped.ts 1).tsq.length = 7 ∧ (base.tbase 3).sync = .tracking ∧ base.cfg (tbCfg 3) 16 12 = 1 ∧
    (base.tbase 3).ageFrom + 1 * 1000000 = (base.atPhase 0).now ∧ calm base := by
  intro c follow coord run f bytes full sent stamped base; unfold calm mild; and_intros <;> decide +kernel

/-- Address 3 in the ring of CANC0 in each state, with each timer at its last instant. -/
theorem test_meets_NetworkManagementEvents :
    let r := (withRegs w [(canBase 0, 1), (nmCfg, 3 + 3 * 256)]).updCan 0 (fun c => { c with st := .active })
    let n := fun (st : NmSt) (f : Nm → Nm) => r.updNm (fun n => f { n with st := st })
    let f : RingTx := ⟨.alive, 5, false, false⟩
    let token := n .consent (fun n => { n with tokenDue := some 1000000000 })
    let wait := n .waitSleep (fun n => { n with wbsFrom := 0 })
    let lin := (withRegs (n .busSleep id) [(0x400B0008, 2 ^ 13)]).updLin 5 (fun l => { l with st := .sleep })
    let fs := withRegs (n .start (fun n => { n with fsFrom := 0 })) [(0x400B0008, 2 ^ 10)]
    let fr := fun (a d b : Nat) => (⟨r.cfg nmCfg 16 6 * 32 + a, false, 2, false, false, false, false, 5000,
      [BitVec.ofNat 8 d, BitVec.ofNat 8 b]⟩ : CanFrame)
    r.nmAddr = 3 ∧ (n .awake id).ringUp = true ∧ (n .awake id).nm.st = .awake ∧ (31 : Fin 32).val ≠ r.nmAddr ∧
    (n .awake id).onBus (n .awake id).nmCtrl = true ∧ mild (n .awake id) ∧ (n .consent id).onBus (n .consent id).nmCtrl = true ∧
    mild (n .consent id) ∧ ((n .awake id).canc (n .awake id).nmCtrl).tec < 256 ∧
    (n .awake id).ringFrame (n .awake id).nmCtrl (fr 31 3 0x10) = some (31, 3, .ring, true, false) ∧
    (n .awake id).ringCanFrame 31 3 .ring true false 5000 = fr 31 3 0x10 ∧
    (n .awake id).ringFrame (n .awake id).nmCtrl (fr 0 255 1) = some (0, 255, .alive, false, false) ∧
    (n .consent id).ringFrame (n .consent id).nmCtrl (fr 31 3 0x30) = some (31, 3, .ring, true, true) ∧
    (n .awake id).nm.tokenDue = none ∧ (n .awake id).canMode (n .awake id).nmCtrl = 0 ∧
    (∀ x ∈ [({ f with sa := true } : RingTx), { f with ty := .wake }, { f with ty := .withdraw }, { f with ty := .ring }],
      (n .consent (fun n => { n with toSend := [x] })).nm.toSend = [x]) ∧
    (n .consent id).ringUp = true ∧ (n .awake (fun n => { n with toSend := [f] })).nm.toSend = [f] ∧
    (n .awake (fun n => { n with toSend := [f] })).ringUp = true ∧ r.supply.low = false ∧ f.ty = .alive ∧ f.sa = false ∧
    token.nm.tokenDue = some (token.atPhase 0).now ∧ token.ringUp = true ∧
    (let y := tick (n .start (fun n => { n with passedTo := some (5, 0), lastToken := 0 })) r.tMax
     y.nm.passedTo = some (5, 0) ∧ 5 ≠ r.nmAddr ∧ 0 + y.tMax = (y.atPhase 0).now ∧ calm y ∧ y.nm.tokenDue = none) ∧
    (let y := tick wait r.tWbs
     y.nm.wbsFrom + y.tWbs = (y.atPhase 0).now) ∧
    (n .busSleep id).running = true ∧ (n .awake id).nmLocalWake = true ∧ (n .busSleep id).inRun = true ∧ (n .busSleep id).nm.wakelOn = false ∧
    (n .busSleep id).nm.wakelUntil = 0 ∧ (lin.linc 5).st = .sleep ∧ lin.linGroup 5 = true ∧
    (n .awake (fun n => { n with wakelOn := true, wakelUntil := 1000000000 })).nm.wakelUntil = (r.atPhase 0).now ∧
    fs.fsCounts = true ∧ calm fs ∧ (let y := tick fs fs.fsDeadline
      y.fsCounts = true ∧ y.fsDeadline ≤ (y.atPhase 0).now) := by
  intro r n f token wait lin fs fr; unfold calm mild; and_intros <;> decide +kernel

/-- Slot 7 PENDING with a telegram in its window, its MAC good and wrong, the ninth failure; the write of its counter;
each timer at its last instant; writes of the key store and a challenge that its waiting command gets. -/
theorem test_meets_AccessEvents :
    let k : TokenSlot := { (default : TokenSlot) with st := .pending, tokenId := 9, last := 3, pendFrom := 400000000000 }
    let body : List Byte := [0x10, 0, 0, 0, 9, 0, 0, 0, 4, 1, 0x80]
    let wrong : List Byte := body ++ [1, 2, 3, 4]
    let mac := BitVec.ofNat 32 ((cmacShort k.kT (body.map (·.toNat))).toNat / 2 ^ 96)
    let good : List Byte := body ++ [byteOf mac 3, byteOf mac 2, byteOf mac 1, byteOf mac 0]
    let y : State := w.updAcc (fun a => { a with uhfen := true, uhfAt := 994600000, slots := a.slots.set 7 k })
    let a := fun (f : Acc → Acc) => y.updAcc f
    let o : Outst := ⟨1, 0x5A, pk 0 0 [], 3, .enrol 7, none⟩
    let t := (y.atPhase 0).now
    (let tel : TelegramIn := ⟨12, 0x2D, [18000, 22000], false⟩
     y.acc.uhfen = true ∧ y.inRun = true ∧ y.acc.uhfAt + 5000000 + 10 * tel.periods.sum = t ∧ 12 ≤ tel.preamble ∧
     (∀ p ∈ tel.periods, 18000 ≤ p ∧ p ≤ 22000) ∧ 15 ≤ good.length ∧ ¬ (15 ≤ (good.take 14).length) ∧
     ¬ (18000 ≤ 17999) ∧ ¬ (22001 ≤ 22000)) ∧
    (y.acc.throttleEnd = none ∧ wrong.length = 15 ∧ byteAt wrong 0 = 0x10 ∧ byteAt wrong 10 / 16 % 8 = 0) ∧
    (good.length = 15 ∧ byteAt good 0 = 0x10 ∧ byteAt good 10 / 16 % 8 = 0 ∧ y.tokenSlot (be32 good 1) = some (7 : Fin 8).val ∧
     macOk (y.tok 7).kT good = true ∧ (y.tok 7).latest = none ∧ (be32 good 5 - y.lastOf 7).toNat = 1 ∧ 1 ≤ y.accWindow) ∧
    (y.tokenSlot (be32 wrong 1) = some (7 : Fin 8).val ∧ macOk (y.tok 7).kT wrong = false ∧ y.acc.recent = [] ∧ calm y ∧
     (List.replicate 8 1000000000).filter (fun e => decide (t ≤ e + 10000000000)) = List.replicate 8 1000000000) ∧
    t < 1000000001 ∧
    ((a (fun a => { a with writes := [⟨7, good, false⟩], session := some 7 })).acc.writes = [⟨(7 : Fin 8).val, good, false⟩] ∧
     (y.tok 7).st ≠ .empty ∧ (y.tok 7).tokenId = be32 good 1 ∧ byteAt good 9 = 1) ∧
    ((a (fun a => { a with session := some 7, sessionEnd := 1000000000 })).acc.sessionEnd = t ∧
     (a (fun a => { a with throttleEnd := some 1000000000 })).acc.throttleEnd = some t ∧
     (a (fun a => { a with dealerEnd := some 1000000000 })).acc.dealerEnd = some t ∧
     (a (fun a => { a with lockEnd := some 1000000000 })).acc.lockEnd = some t) ∧
    (let z := tick (a (fun a => { a with slots := a.slots.set 7 { k with cand := some (4, 990000000000) } })) 1000000000000
     (z.tok 7).cand = some (4, 990000000000) ∧ 990000000000 + 10000000000 = (z.atPhase 0).now ∧
     (z.tok 7).st = .pending ∧ (z.tok 7).pendFrom + 600000000000 = (z.atPhase 0).now) ∧
    (let z0 := a (fun a => { a with keyWrites := [.enrol 7 1 2 3 4] })
     let z : State := { z0 with eng := { z0.eng with outst := [o] } }
     z.acc.keyWrites = [.enrol (7 : Fin 8).val 1 2 3 4] ∧ z.eng.outst = [o] ∧ o.answer = none ∧ o.wait = .enrol (7 : Fin 8).val) ∧
    (let q := { o with wait := .challenge }
     let z0 := a (fun a => { a with challenge := some ⟨1, 0, 77, false⟩ })
     let z : State := { z0 with eng := { z0.eng with outst := [q] } }
     z.acc.challenge = some ⟨1, 0, 77, false⟩ ∧ z.eng.outst = [q] ∧ q.answer = none ∧ q.wait = .challenge ∧
     z.tokenSlot 9 = some (7 : Fin 8).val ∧ 0 + 71000000 ≤ (z.atPhase 0).now ∧ calm z ∧
     100 * (z.cfg 0x400C0000 4 4 + 1) ≤ 5 * (20 * (z.cfg 0x400C0000 4 4 + 1)) ∧ 20 * (z.cfg 0x400C0000 4 4 + 1) ≤ 2000 ∧
     ¬ 100 * (z.cfg 0x400C0000 4 4 + 1) ≤ 5 * (20 * (z.cfg 0x400C0000 4 4 + 1) - 1)) ∧
    (let lost : State := { y with mem := { y.mem with pageSpares := (List.range 32).map (fun p => (p, p)) } }
     lost.mem.sparePage = none ∧ calm lost) := by
  intro k body wrong mac good y a o t; unfold calm mild; and_intros <;> decide +kernel

/-! ### Hypotheses: faults, memories, power states, registers, the whole block -/

/-- BUS_LOCK_LEASE at N - 1 and N of 3 in a window of REACT 1, 2 and 4; a window at its end and 1 ns before; RECOVERY
at the end of the quiet period. -/
theorem test_meets_FaultCountingAndReactions :
    let cfg := fun (react : Nat) => withRegs w [(srcCfg 0x10, 3 + 256 + react * 2 ^ 24 + 2 ^ 27)]
    let y := fun (react count at_ : Nat) => (cfg react).updSrc 0x10 (fun f => { f with count := count, openAt := some at_ })
    let z : State := { tick w 100000000000 with flt := { w.flt with st := .recovery, quietFrom := 99000000000 } }
    w.inRun = true ∧ w.pwr.woken = false ∧ (y 1 1 1000000000).flt.st ≠ .recovery ∧ (y 1 1 1000000000).faultN 0x10 = 3 ∧
    ((y 1 1 1000000000).src 0x10).openAt = some 1000000000 ∧
    ((y 1 1 1000000000).atPhase 5).now < 1000000000 + (y 1 1 1000000000).faultWin 0x10 ∧
    ((y 1 2 1000000000).src 0x10).count + 1 = (y 1 2 1000000000).faultN 0x10 ∧
    (y 0 2 1000000000).faultReact 0x10 = 0 ∧ (∀ k, k < 8 → ((y 4 2 1000000000).vl k).st = .off) ∧
    (y 1 1 1000000000).flt.owed = [] ∧ (∀ m, m < 6 → (y 1 1 1000000000).flt.declared.testBit m = false) ∧ (512 : Nat) ≤ 512 ∧
    (z.atPhase 0).clk.phase ≤ 6100 ∧ (y 1 2 1000000000).faultReact 0x10 = 1 ∧ (y 2 2 1000000000).faultReact 0x10 = 2 ∧
    (y 2 2 1000000000).flt.st = .normal ∧ (y 4 2 1000000000).faultReact 0x10 = 4 ∧
    (let u := y 1 1 (1000000000 - (cfg 1).faultWin 0x10)
     1000000000 - (cfg 1).faultWin 0x10 + u.faultWin 0x10 = (u.atPhase 0).now) ∧
    (let u := y 1 1 (1000000001 - (cfg 1).faultWin 0x10)
     (u.atPhase 0).now < 1000000001 - (cfg 1).faultWin 0x10 + u.faultWin 0x10) ∧
    z.inRun = true ∧ z.flt.st = .recovery ∧ z.flt.quietFrom + z.cfg 0x400D0000 0 10 * 10000000 = (z.atPhase 0).now := by
  intro cfg y z; and_intros <;> decide +kernel

/-- The scrubber at the ends of ROM, flash and SRAM and inside a row; a row and a page that are due, with a spare, with
none, and reported before. -/
theorem test_meets_MemoryEvents :
    let r := withRegs w [(0x400E0000, 1)]
    let m := fun (f : Mem → Mem) => r.updMem f
    let row := m (fun m => { m with rowDue := [(1535, 2)] })
    let none_ := m (fun m => { m with rowDue := [(1535, 2)], badSpares := tab 6 (fun _ => List.range 16) })
    let seen := none_.updMem (fun m => { m with exhaustSeen := [(2, 1535)] })
    let rate := r.cfg 0x400E0000 4 13 * 1000
    let bad : PageErr := ⟨(List.range 9).map (fun i => 4 + 8 * i), []⟩
    r.inRun = true ∧ r.cfgBit 0x400E0000 0 = true ∧ calm r ∧ max r.mem.scrubAt r.clk.epoch ≤ (r.atPhase 0).now ∧
    0x20000004 ∈ lostWords 0x20000004 bad ∧ lostWords 0x20000004 ⟨bad.bytes.take 8, []⟩ = [] ∧
    lostWords 0x20000004 ⟨[0], []⟩ = [] ∧
    (∀ d ∈ [0, 1, 14, 15], let y := m (fun m => { m with debt := d, scrubAt := 1000000000 - rate })
     y.mem.debt = d ∧ max y.mem.scrubAt y.clk.epoch + rate = (y.atPhase 0).now ∧ y.mem.lagSeen = false) ∧
    (∀ a ∈ [0xFFFC, 0x100FFFFC, 0x20000004, 0x2005FFF8, 0x2005FFFC], (m (fun m => { m with scrubAddr := a })).mem.scrubAddr = a ∧
      kvGet (m (fun m => { m with scrubAddr := a })).mem.inj a = none ∧ a ∉ (m (fun m => { m with scrubAddr := a })).mem.poison ∧
      (m (fun m => { m with scrubAddr := a })).mem.walkDirty = false) ∧
    0x2005FFF8 % 0x400 ≠ 0x3FC ∧
    row.mem.rowDue = [(1535, 2)] ∧ calm row ∧ calm none_ ∧ calm seen ∧ row.mem.spareRow (1535 / 256) = some 0 ∧ row.pwr.fuseFailed = false ∧
    none_.mem.spareRow (1535 / 256) = none ∧ (2, 1535) ∉ none_.mem.exhaustSeen ∧ (2, 1535) ∈ seen.mem.exhaustSeen ∧
    seen.mem.spareRow (1535 / 256) = none ∧
    (let y := m (fun m => { m with pageDue := [(1023, 2)] })
     y.mem.pageDue = [(1023, 2)] ∧ y.mem.sparePage = some 0 ∧ calm y) ∧
    (let y := m (fun m => { m with pageDue := [(1023, 2)], pageSpares := (List.range 32).map (fun p => (p, p)) })
     y.mem.sparePage = none ∧ calm y ∧ (3, 1023) ∉ y.mem.exhaustSeen) ∧
    (let y : State := { r with feat := { r.feat with rewriting := true }, win := { r.win with busy := true, busyUntil := 1000000000 } }
     y.feat.rewriting = true ∧ y.pwr.fuseFailed = false ∧ y.win.busy = true ∧ y.win.busyUntil ≤ (y.atPhase 0).coreNow) := by
  intro r m row none_ seen rate bad; unfold calm mild; and_intros <;> decide +kernel

/-- An entry at the last instant of each step; wakes in each state; the armed port 63 one sample before its wake and at
it. -/
theorem test_meets_PowerEntryEvents :
    let o : Outst := ⟨3, 0x78, pk 0 0 [], 4, .entry, none⟩
    let n := fun (f : Entry → Entry) =>
      let s := withRegs w [(0x40000048, 7), (nmCfg, 0)]
      ({ s with pwr := { s.pwr with entry := some (f e) }, eng := { s.eng with outst := [o] } } : State)
    let park0 := withRegs w [(0x40000048, 7), (0x4005040C, 2 ^ 31), (siCfg 63, 1)]
    let park : State := { park0 with pwr := { park0.pwr with phase := .park } }
    let cellar : State := { w with pwr := { w.pwr with phase := .cellar, cellarWake := 7 } }
    (n id).pwr.phase = .run ∧ (n id).pwr.entry = some e ∧ e.step = 1 ∧
    (let y := tick (n id) 1100000000
     e.since + y.cfg 0x40000040 0 10 * 1000000 = (y.atPhase 0).now) ∧ (n id).eng.outst = [o] ∧
    o.ticket = e.ticket ∧ o.answer = none ∧
    (let y := n (fun e => { e with step := 2, since := 990000000 })
     y.pwr.entry = some { e with step := 2, since := 990000000 } ∧ (∀ r ∈ y.link.replies ++ y.link.held, r.num ≠ e.okReply) ∧
     990000000 + 10000000 = (y.atPhase 0).now ∧ y.link.hcsnLow = false) ∧
    (let y := n (fun e => { e with step := 2, drained := true })
     y.pwr.entry = some { e with step := 2, drained := true } ∧ e.since = y.clk.tickNs) ∧
    (∀ c ∈ [false, true], let y := n (fun e => { e with step := 3, since := 999970000, cellar := c })
     y.pwr.entry = some { e with step := 3, since := 999970000, cellar := c } ∧ 999970000 + 30000 = (y.atPhase 0).now ∧
     y.nmLocalWake = false ∧ (y.reg 0x40000048).getLsbD 0 = true ∧ (y.reg 0x40000048).getLsbD 2 = true) ∧
    park.pwr.phase = .park ∧ park.pwr.woken = false ∧ park.pwr.entry = none ∧ park.armed 63 = true ∧
    (park.reg 0x40000048).getLsbD 1 = true ∧ (park.si 63).ref = false ∧ (park.si 63).parkRun = 0 ∧
    (∀ k, k < 64 → park.armed k = true → 0 < park.nPark k) ∧
    (let y := park.updPort 63 (fun p => { p with parkRun := park.nPark 63 - 1 })
     y.armed 63 = true ∧ y.nPark 63 = (y.si 63).parkRun + 1 ∧ (BitVec.ofNat 64 (2 ^ 63)).getLsbD 63 ≠ (y.si 63).ref ∧
     (∀ k, k < 63 → y.armed k = false)) ∧
    (let y := (n id).updPort 63 (fun p => { p with valid := true, state := true })
     let z := withRegs { y with contact := vput y.contact 63 (.pin 24000 0) } [(0x4005040C, 2 ^ 31), (siCfg 63, 1)]
     z.pwr.entry = some e ∧ (z.atPhase 0).portFires 63 = true ∧ z.nmLocalWake = false) ∧
    ((n id).reg 0x40000048).getLsbD 0 = true ∧ cellar.cfg 0x40000048 0 3 < 8 ∧ w.pwr.entry = none ∧
    (∀ k, k < 64 → park.armed k = true → contactRaw (.pin 0 0) (park.reg (siCfg k)) (bits (park.reg (siCfg k)) 24 3) (park.si k).raw =
      some false ∧ contactRaw (.pin 24000 0) (park.reg (siCfg k)) (bits (park.reg (siCfg k)) 24 3) (park.si k).raw = some true) ∧
    ({ park with supply := { park.supply with low := true } } : State).supply.low = true ∧ kvSorted park.live.regs = true ∧
    cellar.pwr.phase = .cellar ∧ cellar.pwr.entry = none ∧ cellar.pwr.cellarWake.getLsbD 2 = true ∧
    (let y : State := { park with pwr := { park.pwr with woken := true } }
     y.pwr.phase = .park ∧ y.pwr.woken = true) := by
  intro o n park0 park cellar; and_intros <;> decide +kernel

/-- An undecoded window, one that the applet core does not reach, and every register that the statement names. -/
theorem test_meets_RegisterAccesses :
    let s0 := w.atPhase 5
    let x : Flight := { m := .dma, write := true, addr := 0x40080000, data := 5, left := 65 }
    w.running = true ∧ calm w ∧ w.outOfSegs .ce true 0x40110000 = false ∧ w.outOfSegs .applet true 0x400C0000 = true ∧
    w.outOfSegs .applet false 0x20050000 = true ∧ flightMeets 0xB508 x = true ∧ 64 < x.left ∧ (s0.accessStop { m := Master.ce.id, kind := 1, size := 2 } 0x40110000 true).map (·.1) = some 0x0C ∧
    (s0.accessStop { m := Master.ce.id, kind := 0, size := 2 } 0x40110000 false).map (·.1) = some 0x0C ∧
    (∀ a ∈ [0x40000040, 0x400A0050], opens s0 .ce true a ∧ (stagedAt a).isSome = true ∧ actsAtOnce a = true) ∧
    (∀ a ∈ [0x4000000C, 0x20050000, 0x2005FFFC, 0x400D0020, 0x400D0028, 0x400E0020, 0x50000008, 0x5000000C, 0x50000030],
      opens s0 .ce true a) ∧
    (∀ a ∈ [0x400A0000, 0x400A0018, 0x400A0004, 0x400A001C, 0x400601C0, 0x400601D8, 0x40050418, 0x4005041C, 0x40060014],
      opens s0 .ce false a) ∧
    memWf w.mem.bytes = true ∧ w.win.busy = false ∧ bits (0xB508 : Word) 8 8 = 0xB5 ∧ bits (0xB508 : Word) 0 5 = 8 := by
  intro s0 x; unfold opens calm mild; and_intros <;> decide +kernel

/-- Refused commands: an undefined payload, a controller that variant 0x0C lacks and a channel that no variant code
gives. -/
theorem test_meets_RefusedCommandsOnlyAnswer :
    let y : State := { w with feat := { w.feat with variant := 12 } }
    let z : State := { w with feat := { w.feat with variant := 0 } }
    w.inRun = true ∧ w.pwr.woken = false ∧ w.arrivalStatus 0x20 (pk 0 0 [1]) = some 0x13 ∧
    w.arrivalStatus 0x72 (pk 0 0 []) = some 0x14 ∧ y.arrivalStatus 0x42 (pk 0 0 [3]) = some 0x23 ∧
    y.pwr.fuseFailed = false ∧ (pk 0 0 [3 * 2 ^ 30 + 3]).payload ≠ [] ∧
    hasCan y.var (pf (pk 0 0 [3 * 2 ^ 30 + 3]) 2 0 2) = false ∧ hasCan y.var (pf (pk 0 0 [3 * 2 ^ 30 + 3]) 2 30 2) = false ∧
    pf (pk 0 0 [5]) 2 0 3 < 6 ∧ hasLin z.var (pf (pk 0 0 [5]) 2 0 3) = false := by
  intro y z; and_intros <;> decide +kernel

theorem test_meets_DecodeEncodeXk :
    wellFormed (.sat 15 15 32) = true ∧ encodeXk (.sat 15 15 32) ≠ none ∧ wellFormed (.satu 15 15 31) = true ∧
    encodeXk (.call 0x3FFFFFF) = some 0x8BFFFFFF := by
  and_intros <;> decide +kernel

theorem test_meets_XkStepKeepsMemoryFormAndG0 :
    let y : State := { x with pending := [.addi 0 15 5] }
    encodeXk (.addi 0 15 5) ≠ none ∧ memWf y.mem.bytes = true ∧ y.core.g[0] = 0 ∧
    (match step y with | .next t => t.pending == [] && t.core.pc == 4 | _ => false) = true := by
  intro y; and_intros <;> decide +kernel

end Sys2Proof.Tests
end

section
/-! The answer to a command that a check of R125 refuses at arrival (R127), the rows in whose racking the
watches and wakes are looked at (R260, R264), and the CAN and LIN units that a variant lacks (R35). -/

namespace Sys2Proof.Machine

/-! ### The reply to a refused command -/

/-- A posted reply stands last among the replies, and posting gives it no flag but EVENT, bit 5 (R141). -/
theorem State.post_appends (s : State) (r : Reply) :
    ∃ fl, (s.post r).link.replies ++ (s.post r).link.held =
        s.link.replies ++ s.link.held ++ [{ r with num := s.link.nextNum, flags := fl, taken := s.evSeq }] ∧
      (fl = r.flags ∨ fl = r.flags ||| 32) := by
  rw [State.post_eq]
  dsimp only
  split
  · rename_i h
    have held : s.link.held = [] := by simpa using (Bool.and_eq_true_iff.mp h).1
    rw [State.clearReported_link]
    simp only [State.relinked, held, List.append_nil]
    refine ⟨_, rfl, ?_⟩
    cases State.anyPend _
    · exact .inl (Nat.or_zero _)
    · exact .inr rfl
  · exact ⟨r.flags, by simp only [State.relinked, List.append_assoc], .inl rfl⟩

/-- t is s with the command answered by a status alone and its refusal counted. -/
def State.OnlyRefuses (s : State) (op : Nat) (c : HostCmd) (st : Nat) (t : State) : Prop :=
  t = { s with link := t.link, evSeq := s.evSeq + 1, eng := countStatus s.eng st } ∧
  ∃ r, t.link.replies ++ t.link.held = s.link.replies ++ s.link.held ++ [r] ∧ r.num = s.link.nextNum ∧
    r.seq = c.seq ∧ r.op = op ∧ r.node = c.node ∧ r.status = st ∧ r.payload = [] ∧ (r.flags = 0 ∨ r.flags = 32)

theorem State.refuse_onlyRefuses (s : State) (op : Nat) (c : HostCmd) (st : Nat) :
    s.OnlyRefuses op c st (s.refuse op c st) := by
  obtain ⟨fl, replies, flag⟩ := State.post_appends { s with eng := countStatus s.eng st }
    { num := 0, seq := c.seq, op := op, node := c.node, status := st, flags := 0, payload := []
      taken := 0, clrIn := 0, clrField := 0, clrPend := 0 }
  exact ⟨State.post_plain _ _ rfl rfl rfl, _, replies, rfl, rfl, rfl, rfl, rfl, rfl, by simpa using flag⟩

/-- Counting a status leaves the commands answered at a later racking. -/
theorem countStatus_outst (e : Eng) (st : Nat) : (countStatus e st).outst = e.outst := by
  unfold countStatus
  split <;> rfl

/-- A refusal is not one of the changes that `State.done` takes back. -/
theorem State.OnlyRefuses.done {s t : State} {op : Nat} {c : HostCmd} {st : Nat} (h : s.OnlyRefuses op c st t) :
    s.done t = .next t := by
  rw [h.1]
  rfl

/-! ### The end of the racking of a single command -/

/-- With no watch among the outstanding commands there is nothing to look at (R260). -/
theorem State.checkWatches_of_noWatch (s : State) (ask : Bool) (h : ∀ o ∈ s.eng.outst, isWatch o = false) :
    s.checkWatches ask = s := by
  unfold State.checkWatches
  refine List.foldlRecOn s.eng.outst _ (motive := (· = s)) rfl fun t ht o ho => ?_
  have other := h o ho
  split
  · next hw => simp [isWatch, hw] at other
  · exact ht

theorem State.endStep3_of_noWatch (s : State) (h : ∀ o ∈ s.eng.outst, isWatch o = false) : s.endStep3 = s := by
  simp [State.endStep3, State.andRun, State.checkWatches_of_noWatch s _ h]

/-- A wake looks at an entry in progress only (R264). -/
theorem State.andRun_entryWake_of_noEntry (s : State) (h : s.pwr.entry = none) : s.andRun State.entryWake = s := by
  simp [State.andRun, State.entryWake, h]

/-- A refused command leaves what the end of its racking looks at as it was: no watch, no entry. -/
theorem State.OnlyRefuses.quiet {s t : State} {op : Nat} {c : HostCmd} {st : Nat} (h : s.OnlyRefuses op c st t)
    (watches : ∀ o ∈ s.eng.outst, isWatch o = false) (entry : s.pwr.entry = none) :
    t.endStep3 = t ∧ t.andRun State.entryWake = t := by
  have outst : t.eng.outst = s.eng.outst := by rw [h.1]; exact countStatus_outst s.eng st
  have noEntry : t.pwr.entry = none := by rw [h.1]; exact entry
  exact ⟨t.endStep3_of_noWatch (outst ▸ watches), t.andRun_entryWake_of_noEntry noEntry⟩

/-- A command is only answered where a check refuses it and what its row does afterwards finds nothing to do. -/
theorem ends_of_refused {s : State} {op : Nat} {c : HostCmd} {i : Instr} {st : Nat} (after : State → State)
    (row : exec i s = s.done (after (s.hostRow op c))) (run : s.inRun = true) (woken : s.pwr.woken = false)
    (check : s.arrivalStatus op c = some st) (idle : ∀ t, s.OnlyRefuses op c st t → after t = t) :
    Claims.Ends i s (s.OnlyRefuses op c st) := by
  have answer := s.refuse_onlyRefuses op c st
  refine ⟨_, ?_, answer⟩
  rw [row, State.hostRow_refused s op c st run woken check, idle _ answer, answer.done]

/-! ### Absent units that a payload names (R35) -/

/-- A packet that names an absent resource is refused ABSENT, before its target and parameters are looked at. -/
theorem State.arrivalStatus_absent {s : State} {op : Nat} {c : HostCmd} (defined : opcodeDefined op = true)
    (fuses : s.pwr.fuseFailed = false) (absent : payloadAbsent s op c = true) : s.arrivalStatus op c = some 0x23 := by
  simp [State.arrivalStatus, defined, fuses, absent]

theorem payloadAbsent_canTx {s : State} {c : HostCmd} (payload : c.payload ≠ []) :
    payloadAbsent s 0x40 c = !hasCan s.var (pf c 2 30 2) := by
  simp [payloadAbsent, payload]

theorem payloadAbsent_can {s : State} {c : HostCmd} (payload : c.payload ≠ []) :
    ∀ op ∈ [0x41, 0x42], payloadAbsent s op c = !hasCan s.var (pf c 2 0 2) := by
  simp [payloadAbsent, payload]

theorem payloadAbsent_lin {s : State} {c : HostCmd} (payload : c.payload ≠ []) :
    ∀ op ∈ [0x43, 0x44, 0x45, 0x46],
      payloadAbsent s op c = (decide (pf c 2 0 3 < 6) && !hasLin s.var (pf c 2 0 3)) := by
  simp [payloadAbsent, payload]

end Sys2Proof.Machine

namespace Sys2Proof.Claims

open Sys2Proof.Machine

/-- Settles O57: each row is `State.hostRow`, whose refusal is one reply and one count; the three rows that go on with the
end of their racking find no watch and no entry there; and an absent CAN or LIN unit is check 4. -/
theorem refusedCommandsOnlyAnswer : Obligations.RefusedCommandsOnlyAnswer := by
  unfold Obligations.RefusedCommandsOnlyAnswer
  intro s c st run woken refuses
  have refused : ∀ {op st i}, exec i s = s.done (s.hostRow op c) → s.arrivalStatus op c = some st → refuses op i st :=
    fun row check => ends_of_refused id row run woken check fun _ _ => rfl
  have absent : ∀ {op i}, exec i s = s.done (s.hostRow op c) → opcodeDefined op = true → s.pwr.fuseFailed = false →
      payloadAbsent s op c = true → refuses op i 0x23 :=
    fun row defined fuses lacks => refused row (State.arrivalStatus_absent defined fuses lacks)
  refine ⟨fun p hp => refused ?row, fun watches entry p hp check => ?racking, fun fuses payload => ⟨?can, ?tx, ?lin⟩⟩
  case row => fin_cases hp <;> rfl
  case racking =>
    fin_cases hp
    · exact ends_of_refused State.endStep3 rfl run woken check fun _ h => (h.quiet watches entry).1
    · exact ends_of_refused (fun t => t.endStep3.andRun State.entryWake) rfl run woken check
        fun _ h => by rw [(h.quiet watches entry).1, (h.quiet watches entry).2]
    · exact ends_of_refused State.endStep3 rfl run woken check fun _ h => (h.quiet watches entry).1
  case can =>
    intro p hp lacks
    fin_cases hp <;> exact absent rfl rfl fuses (by simp [payloadAbsent_can payload, lacks])
  case tx => exact fun lacks => absent rfl rfl fuses (by simp [payloadAbsent_canTx payload, lacks])
  case lin =>
    intro p hp channel lacks
    fin_cases hp <;> exact absent rfl rfl fuses (by simp [payloadAbsent_lin payload, channel, lacks])

end Sys2Proof.Claims
end

section
/-! The loads and stores of the applet core through a plain segment over SB4 or SB5 (R397, R398), and RDFEAT in
the fuse-failed state (R32). -/

namespace Sys2Proof

/-! ### Bytes of a word (R398) -/

theorem byteOf_eq_extractLsb' (w : Word) (n : Nat) : byteOf w n = w.extractLsb' (8 * n) 8 := rfl

theorem w32_bits (w : Word) (lo n : Nat) : w32 (bits w lo n) = (w.extractLsb' lo n).setWidth 32 :=
  BitVec.eq_of_toNat_eq (by simp [bits])

theorem getLsbD_byteOf (w : Word) (n i : Nat) : (byteOf w n).getLsbD i = (decide (i < 8) && w.getLsbD (8 * n + i)) := by
  rw [byteOf_eq_extractLsb', BitVec.getLsbD_extractLsb']

/-- Two neighbouring bytes are the half-word at the lower one. -/
theorem byteOf_append_byteOf (w : Word) (n : Nat) :
    byteOf w (n + 1) ++ byteOf w n = w.extractLsb' (8 * n) 16 := by
  ext i hi
  simp only [← BitVec.getLsbD_eq_getElem, BitVec.getLsbD_append, getLsbD_byteOf, BitVec.getLsbD_extractLsb']
  by_cases low : i < 8
  · simp [low, hi]
  · simp [low, hi, show i - 8 < 8 by omega, show 8 * (n + 1) + (i - 8) = 8 * n + i by omega]

theorem byteOf_ofBytes (b : Nat → Byte) {i : Nat} (h : i < 4) : byteOf (ofBytes (b 0) (b 1) (b 2) (b 3)) i = b i := by
  ext j hj
  simp only [ofBytes, ← BitVec.getLsbD_eq_getElem, BitVec.getLsbD_append, getLsbD_byteOf]
  interval_cases i <;> grind

/-- The n lowest bytes of a word, as a store takes them. -/
theorem byteOf_low (v : Word) {n i : Nat} (h : i < n) : byteOf (w32 (bits v 0 (8 * n))) i = byteOf v i := by
  ext j hj
  simp only [← BitVec.getLsbD_eq_getElem, getLsbD_byteOf, w32_bits, BitVec.getLsbD_setWidth, BitVec.getLsbD_extractLsb',
    Nat.zero_add]
  by_cases inside : 8 * i + j < 32
  · simp [inside, show 8 * i + j < 8 * n by omega]
  · simp [inside, BitVec.getLsbD_of_ge v (8 * i + j) (by omega)]

end Sys2Proof

namespace Sys2Proof.Machine

/-! ### Bytes of the memory -/

theorem byteOf_memWord (l : List (Nat × Byte)) (w : Word) (a : Nat) {i : Nat} (h : i < 4) :
    byteOf (memWord l w a) i = memByte l w (a + i) :=
  byteOf_ofBytes (fun i => memByte l w (a + i)) h

theorem byteOf_mergePart (w v : Word) (pos n : Nat) {i : Nat} (h : i < 4) :
    byteOf (mergePart w v pos n) i = if pos ≤ i ∧ i < pos + n then byteOf v (i - pos) else byteOf w i :=
  byteOf_ofBytes (fun i => if pos ≤ i ∧ i < pos + n then byteOf v (i - pos) else byteOf w i) h

/-- A part of a word written into its word lands at its own bytes and leaves every other byte (R448). -/
theorem memByte_memPutWord_mergePart (l : List (Nat × Byte)) (v : Word) (a n c : Nat) (fits : a % 4 + n ≤ 4)
    (h : memWf l = true) :
    memByte (memPutWord l (a / 4 * 4) (mergePart (memWord l 0 (a / 4 * 4)) v (a % 4) n)) 0 c =
      if a ≤ c ∧ c < a + n then byteOf v (c - a) else memByte l 0 c := by
  rw [memByte_memPutWord _ _ _ _ _ h]
  by_cases word : a / 4 * 4 ≤ c ∧ c < a / 4 * 4 + 4
  · rw [if_pos word, byteOf_mergePart _ _ _ _ (by omega), byteOf_memWord _ _ _ (by omega)]
    by_cases part : a ≤ c ∧ c < a + n
    · rw [if_pos part, if_pos (by omega), show c - a / 4 * 4 - a % 4 = c - a by omega]
    · rw [if_neg part, if_neg (by omega), show a / 4 * 4 + (c - a / 4 * 4) = c by omega]
  · rw [if_neg word, if_neg (by omega)]

/-- An aligned write of the applet to a sound word of SB4 or SB5 is one word write, which puts the bytes of its size
at the address and leaves every other byte. -/
theorem State.busWrite_sram_bytes (s : State) (kind sz a : Nat) (v : Word) (h0 : 0x20040000 ≤ a) (h1 : a < 0x20060000)
    (size : sz ≤ 2) (hz : a % sizeBytes sz = 0) (hi : kvGet s.mem.inj (a / 4 * 4) = none) (hp : a / 4 * 4 ∉ s.mem.poison)
    (wf : memWf s.mem.bytes = true) :
    ∃ b w, s.busWrite { m := 1, kind := kind, size := sz } a v = (s.writeWord b w, .ok) ∧
      ∀ c, memByte (memPutWord s.mem.bytes b w) 0 c =
        if a ≤ c ∧ c < a + sizeBytes sz then byteOf v (c - a) else memByte s.mem.bytes 0 c := by
  rcases Nat.lt_or_eq_of_le size with part | rfl
  · have fits : a % 4 + sizeBytes sz ≤ 4 := by
      interval_cases sz <;> simp only [sizeBytes] at hz ⊢ <;> omega
    exact ⟨_, _, s.busWrite_sram_part kind sz a v h0 h1 part hz hi hp,
      fun c => memByte_memPutWord_mergePart _ v a _ c fits wf⟩
  · exact ⟨_, _, s.busWrite_sram_word kind a v h0 h1 hz, fun c => memByte_memPutWord _ 0 v a c wf⟩

/-! ### Cycles of an access to SRAM (R406) -/

theorem loadCost_sram {a : Nat} (h0 : 0x20040000 ≤ a) (h1 : a < 0x20060000) : loadCost a = 2 := by
  obtain ⟨sram, -, flash, -, -⟩ := inSram_of a h0 h1
  simp [loadCost, sram, flash]

theorem storeCost_sram {a : Nat} (h0 : 0x20040000 ≤ a) (h1 : a < 0x20060000) : storeCost a = 1 := by
  simp [storeCost, (inSram_of a h0 h1).1]

/-- Only a read of the coprocessor window waits (R411). -/
theorem State.copWait_sram (s : State) {a : Nat} (h1 : a < 0x20060000) : s.copWait a = 0 := by
  simp [State.copWait, show ¬ 0x50000040 ≤ a by omega]

end Sys2Proof.Machine

namespace Sys2Proof.Claims

open Sys2Proof.Machine

/-! ### Bytes as the statements read them -/

theorem sbyte_eq_memByte (s : State) (a : Nat) : sbyte s a = memByte s.mem.bytes 0 a := by
  have zero : (unlisted a).getD (byteOf 0 (a % 4)) = 0 := by
    unfold unlisted
    split <;> simp [byteOf]
  rw [sbyte, memByte, zero]

/-- What the bus returns of n bytes at an address of SRAM. -/
def partAt (s : State) (a n : Nat) : Word := w32 (bits (memWord s.mem.bytes 0 (a / 4 * 4)) (8 * (a % 4)) (8 * n))

theorem byteOf_wordAround (s : State) (a : Nat) {i : Nat} (h : a % 4 + i < 4) :
    byteOf (memWord s.mem.bytes 0 (a / 4 * 4)) (a % 4 + i) = sbyte s (a + i) := by
  rw [byteOf_memWord _ _ _ h, sbyte_eq_memByte, show a / 4 * 4 + (a % 4 + i) = a + i by omega]

theorem partAt_byte (s : State) (a : Nat) : partAt s a 1 = (sbyte s a).setWidth 32 := by
  rw [partAt, w32_bits, ← byteOf_eq_extractLsb']
  exact congrArg _ (byteOf_wordAround s a (i := 0) (by omega))

theorem partAt_half (s : State) (a : Nat) (h : a % 2 = 0) :
    partAt s a 2 = (sbyte s (a + 1) ++ sbyte s a).setWidth 32 := by
  rw [partAt, w32_bits, ← byteOf_wordAround s a (i := 1) (by omega), ← Nat.add_zero a,
    ← byteOf_wordAround s a (i := 0) (by omega)]
  exact congrArg _ (byteOf_append_byteOf _ _).symm

theorem partAt_word (s : State) (a : Nat) (h : a % 4 = 0) :
    partAt s a 4 = sbyte s (a + 3) ++ sbyte s (a + 2) ++ sbyte s (a + 1) ++ sbyte s a := by
  have word : a / 4 * 4 = a := by omega
  rw [partAt, w32_bits, word, h]
  simp only [sbyte_eq_memByte]
  exact (BitVec.setWidth_eq _).trans BitVec.extractLsb'_eq_self

/-! ### Accesses that pass the checks -/

theorem offM_eq (s : State) (ra : Fin 16) (imm : BitVec 15) : s.offM ra imm = offsetOf s ra imm := rfl

theorem aligned_of_reachable {s : State} {k : Fin 8} {wr : Bool} {o sz : Nat} (h : reachable s k wr o (sizeBytes sz)) :
    ((s.segd k).base + o) % sizeBytes sz = 0 := by
  obtain ⟨-, -, -, aligned, -, base, -, -⟩ := h
  have divides : sizeBytes sz ∣ 4 := by
    unfold sizeBytes
    split <;> decide
  exact Nat.mod_eq_zero_of_dvd
    (Nat.dvd_add (divides.trans (Nat.dvd_of_mod_eq_zero base)) (Nat.dvd_of_mod_eq_zero aligned))

/-- The checks of R397 pass, and the access goes to a sound place of SB4 or SB5. -/
theorem access_of_reachable {s : State} {k : Fin 8} {wr : Bool} {o sz : Nat} (h : reachable s k wr o (sizeBytes sz)) :
    s.segFault k wr sz o = none ∧ s.segAddr k o = (s.segd k).base + o ∧ sound s ((s.segd k).base + o) := by
  obtain ⟨notStack, granted, plain, aligned, inside, -, range, good⟩ := h
  exact ⟨s.segFault_none k wr sz o (fun six => notStack (Fin.ext six)) granted (.inl plain) aligned inside,
    Nat.mod_eq_of_lt range, good⟩

/-- A load that passes the checks writes the extended bytes at its address, and nothing but rd, PC and the cycle count
changes (R398). -/
theorem ld_of_reachable {s : State} {k : Fin 8} {sz : Nat} {rd ra : Fin 16} {imm : BitVec 15} (ext : Word → Word)
    (h : reachable s k false (offsetOf s ra imm) (sizeBytes sz)) :
    State.ld sz ext rd ra k imm s =
      (wrote s rd (ext (partAt s ((s.segd k).base + offsetOf s ra imm) (sizeBytes sz))) 2, none) := by
  have aligned := aligned_of_reachable h
  obtain ⟨passes, addr, low, high, clean, notLost⟩ := access_of_reachable h
  simp only [State.ld, State.xLoad, offM_eq, passes, addr, s.busRead_sram 0 sz _ low high aligned clean notLost,
    loadCost_sram low high, s.copWait_sram high]
  exact congrArg (·, none) (s.result_eq rd _ 2)

/-- A store that passes the checks puts the low bytes of rd at its address and goes on, 1 cycle later (R398, R406). -/
theorem st_of_reachable {s : State} {k : Fin 8} {sz : Nat} {rd ra : Fin 16} {imm : BitVec 15} (size : sz ≤ 2)
    (wf : memWf s.mem.bytes = true) (h : reachable s k true (offsetOf s ra imm) (sizeBytes sz)) :
    ∃ m, State.st sz rd ra k imm s = (({ s with mem := m }).step4 1, none) ∧
      stored s (({ s with mem := m }).step4 1) ((s.segd k).base + offsetOf s ra imm) (sizeBytes sz) (s.gr rd) := by
  have aligned := aligned_of_reachable h
  obtain ⟨passes, addr, low, high, clean, notLost⟩ := access_of_reachable h
  obtain ⟨b, w, write, bytes⟩ := s.busWrite_sram_bytes 1 sz _ (w32 (bits (s.gr rd) 0 (8 * sizeBytes sz))) low high size
    aligned clean notLost wf
  refine ⟨(s.writeWord b w).mem, ?_, ?_, rfl, rfl⟩
  · simp only [State.st, State.xStore, offM_eq, passes, addr, write, storeCost_sram low high]
    rfl
  · intro c
    rw [sbyte_eq_memByte, sbyte_eq_memByte]
    refine (bytes c).trans ?_
    by_cases part : (s.segd k).base + offsetOf s ra imm ≤ c ∧ c < (s.segd k).base + offsetOf s ra imm + sizeBytes sz
    · rw [if_pos part, if_pos part, byteOf_low _ (by omega)]
    · rw [if_neg part, if_neg part]

/-- An instruction that is issued and whose effect leaves the queue and the fuses completes with its effect. -/
theorem exec_of_effect {s t : State} {i : Instr} (row : exec i s = s.done (s.xkRow i)) (h : issues s)
    (effect : xkEffect i s = (t, none)) (queue : t.pending = s.pending) (fuses : t.feat.variant = s.feat.variant) :
    exec i s = .next t := by
  rw [row, s.xkRow_next t i h effect, s.done_of_eq t queue fuses]

theorem sext16_setWidth (b : BitVec 16) : sext16 (b.setWidth 32) = b.signExtend 32 := by
  rw [sext16, BitVec.setWidth_setWidth_of_le b (by decide), BitVec.setWidth_eq]

theorem sext8_setWidth (b : Byte) : sext8 (b.setWidth 32) = b.signExtend 32 := by
  rw [sext8, BitVec.setWidth_setWidth_of_le b (by decide), BitVec.setWidth_eq]

/-- A load instruction that passes the checks completes with v in rd, when v is what its extension makes of the bytes. -/
theorem exec_load {s : State} {k : Fin 8} {sz : Nat} {rd ra : Fin 16} {imm : BitVec 15} {i : Instr} {ext : Word → Word}
    {v : Word} (row : exec i s = s.done (s.xkRow i)) (effect : xkEffect i = State.ld sz ext rd ra k imm) (h : issues s)
    (checks : reachable s k false (offsetOf s ra imm) (sizeBytes sz))
    (value : ext (partAt s ((s.segd k).base + offsetOf s ra imm) (sizeBytes sz)) = v) :
    exec i s = .next (wrote s rd v 2) :=
  exec_of_effect row h (by rw [effect, ld_of_reachable _ checks, value]) rfl rfl

theorem exec_store {s : State} {k : Fin 8} {sz : Nat} {rd ra : Fin 16} {imm : BitVec 15} {i : Instr}
    (row : exec i s = s.done (s.xkRow i)) (effect : xkEffect i = State.st sz rd ra k imm) (size : sz ≤ 2) (h : issues s)
    (wf : memWf s.mem.bytes = true) (checks : reachable s k true (offsetOf s ra imm) (sizeBytes sz)) :
    Ends i s (fun t => stored s t ((s.segd k).base + offsetOf s ra imm) (sizeBytes sz) (s.gr rd) ∧
      t.core.pc = s.core.pc + 4 ∧ t.core.cycles = s.core.cycles + 1) := by
  obtain ⟨m, ends, bytes⟩ := st_of_reachable (rd := rd) size wf checks
  exact ⟨_, exec_of_effect row h ((congrFun effect s).trans ends) rfl rfl, bytes, rfl, rfl⟩

/-- Settles O3: a load is `exec_load` with the bytes of its size, a store is `exec_store`. -/
theorem xkLoadsAndStores : Obligations.XkLoadsAndStores := by
  unfold Obligations.XkLoadsAndStores
  refine ⟨fun s rd ra k imm h => ⟨fun checks => ?word, fun checks => ?half, fun checks => ?byte⟩,
    fun s rd ra k imm h wf => ?stores⟩
  case word =>
    exact exec_load (sz := 2) rfl rfl h checks (partAt_word s _ (aligned_of_reachable (sz := 2) checks))
  case half =>
    have value := partAt_half s _ (aligned_of_reachable (sz := 1) checks)
    exact ⟨exec_load (sz := 1) rfl rfl h checks ((congrArg sext16 value).trans (sext16_setWidth _)),
      exec_load (sz := 1) rfl rfl h checks value⟩
  case byte =>
    have value := partAt_byte s ((s.segd k).base + offsetOf s ra imm)
    exact ⟨exec_load (sz := 0) rfl rfl h checks ((congrArg sext8 value).trans (sext8_setWidth _)),
      exec_load (sz := 0) rfl rfl h checks value⟩
  case stores =>
    exact ⟨exec_store (sz := 2) rfl rfl (by decide) h wf, exec_store (sz := 1) rfl rfl (by decide) h wf,
      exec_store (sz := 0) rfl rfl (by decide) h wf⟩

/-! ### The FEATURE window in the fuse-failed state (R32) -/

/-- A run of the core in the fuse-failed state, at its first instruction. -/
def fuseFailedRun : State :=
  { State.reset with
    pwr := { pwrReset with phase := .run, fuseFailed := true }
    core := { coreReset with run := .running, budget := 100 } }

theorem issues_fuseFailedRun : issues fuseFailedRun := fun _ => by decide

theorem segd_fuseFailedRun : fuseFailedRun.segd 7 = seg7 := by decide +kernel

/-- RDFEAT reads FEAT0 as 0 in the fuse-failed state. -/
theorem rdfeat_fuseFailedRun : exec (.rdfeat 1 0) fuseFailedRun = .next (wrote fuseFailedRun 1 0 6) :=
  exec_of_effect rfl issues_fuseFailedRun rfl rfl rfl

/-- Refutes O6: in the fuse-failed state every FEATURE register reads 0 (R32), so RDFEAT leaves 0 where the statement,
which has no premise on that state, has FEAT0 of the variant. -/
theorem not_xkSpecialRegisters : ¬ Obligations.XkSpecialRegisters := by
  unfold Obligations.XkSpecialRegisters
  intro h
  obtain ⟨-, -, -, -, -, -, -, -, rdfeat⟩ := h fuseFailedRun 1 0 issues_fuseFailedRun
  have claimed := rdfeat segd_fuseFailedRun 0
  have same : wrote fuseFailedRun 1 0 6 = wrote fuseFailedRun 1 (featWord 1 0) 6 :=
    Host.Outcome.next.inj (rdfeat_fuseFailedRun.symm.trans claimed)
  exact absurd (congrArg (fun t => t.gr 1) same) (by decide +kernel)

end Sys2Proof.Claims
end
